-- ==== Sys2Proof/Word.lean ====
section
/-! DEFINITION. The bit vectors of the MX-240 (frame bytes and store words) and the plainest integer
arithmetic of 0.5.2. Everything else in the model is a Nat or an Int, as 0.5.2 says all arithmetic is on integers. -/
namespace Sys2Proof

/-- A byte of a frame (R176). -/
abbrev Byte := BitVec 8

/-- A word of the Profile Store (R186). -/
abbrev Word := BitVec 16

/-- `clamp(x, lo, hi)` of 0.5.2: x limited to the range lo to hi. -/
def clampInt (x lo hi : Int) : Int := max lo (min x hi)

end Sys2Proof
end

