-- ==== Sys2Proof/Syntax.lean ====
section
/-! DEFINITION. The names of the part's own values (0.5.3), the named fields of the request bodies, and the
commands: one constructor of `Instr` for each row of spec/opcode_table.json. -/
namespace Sys2Proof

/-- The eight discrete inputs in the order of R75, one value of any kind for each. -/
structure Eight (α : Type) where
  park : α
  neutral : α
  pumprange : α
  shroad : α
  shpump : α
  ptorOn : α
  ptoaOn : α
  ptobOn : α
  deriving DecidableEq, Repr, Inhabited

/-- The levels of the eight discrete lines (set is true). -/
abbrev Inputs := Eight Bool

/-- The four kinds of demand (R4). -/
inductive Kind where
  | pumpStat | pumpRoll | aux | discharge
  deriving DecidableEq, Repr, Inhabited

/-- A pump demand's governing mode (R4). -/
inductive GovMode where
  | pressure | speed
  deriving DecidableEq, Repr, Inhabited

/-- The target of an AUX demand: A is PTOA, B is PTOB (R4). -/
inductive Target where
  | a | b
  deriving DecidableEq, Repr, Inhabited

/-- The source of a DISCHARGE demand (R4). -/
inductive Source where
  | tank | intake
  deriving DecidableEq, Repr, Inhabited

/-- The two foam tanks a foam part may name (R4). -/
inductive FoamTank where
  | t1 | t2
  deriving DecidableEq, Repr, Inhabited

/-- The three tanks, and with the same numbers the three level channels L0, L1 and L2 (R100, R132). -/
inductive TankId where
  | t0 | t1 | t2
  deriving DecidableEq, Repr, Inhabited

/-- The four resources, in the order the rules take them (R27). -/
inductive Res where
  | split | ptor | ptoa | ptob
  deriving DecidableEq, Repr, Inhabited

/-- The three speed channels E, P and D (R94). -/
inductive SpeedId where
  | eng | pump | road
  deriving DecidableEq, Repr, Inhabited

/-- The nine attention causes in priority order (R180). -/
inductive Att where
  | lockdown | critical | standard | demandChanged | modeChanged | tankChanged
  | presetDone | profileDone | resyncDone
  deriving DecidableEq, Repr, Inhabited

/-- A set of attention causes: the flags, the mask, the set an ACK names (R180, R182). -/
structure AttSet where
  lockdown : Bool
  critical : Bool
  standard : Bool
  demandChanged : Bool
  modeChanged : Bool
  tankChanged : Bool
  presetDone : Bool
  profileDone : Bool
  resyncDone : Bool
  deriving DecidableEq, Repr, Inhabited

/-- The causes of a warm reset (R191). -/
inductive WarmCause where
  /-- VMAIN rises from off. -/
  | powerUp
  /-- VMAIN falls below 8.0 V while on. -/
  | lowSupply
  /-- VMAIN, fallen below 8.0 V, goes off: the main domain is unpowered from here on (R191, log 16). -/
  | supplyOff
  /-- RESET_N held low. -/
  | pin
  deriving DecidableEq, Repr, Inhabited

/-- The capture slot an ACK_FAULT names (R169). -/
inductive FaultSlot where
  | standard | critical
  deriving DecidableEq, Repr, Inhabited

/-- A descriptor (slot, generation) as a request or the table carries it (R1). -/
structure Descriptor where
  slot : Nat
  gen : Nat
  deriving DecidableEq, Repr, Inhabited

/-- The foam part of a request as given: the foam tank's number and the ratio, either of which may be out of range. -/
structure FoamFields where
  tank : Nat
  ratio : Nat
  deriving DecidableEq, Repr, Inhabited

/-- The kind and the fields of that kind, as a request body gives them (R10, R14): `none` for a code that is no
value of its field, `malformed` for a kind that is none of the four or a body whose length does not fit (R175). -/
inductive DemandBody where
  | pumpStat (gov : Option GovMode) (setpoint : Nat)
  | pumpRoll (gov : Option GovMode) (setpoint : Nat)
  | aux (target : Option Target)
  | discharge (outlet : Nat) (source : Option Source) (flow : Nat) (foam : Option FoamFields)
  | malformed
  deriving DecidableEq, Repr, Inhabited

/-- The body of an AMEND: the descriptor, the restated station and kind, the fixed and the changeable fields. -/
structure AmendBody where
  desc : Descriptor
  station : Nat
  body : DemandBody
  deriving DecidableEq, Repr, Inhabited

/-- The set of record states FIND filters by (R19). -/
structure StateSet where
  queued : Bool
  engaging : Bool
  active : Bool
  held : Bool
  forfeit : Bool
  deriving DecidableEq, Repr, Inhabited

/-- The filters of FIND other than the station (R19); kind `none` is any kind. -/
structure FindFilter where
  kind : Option Kind
  states : StateSet
  changedOnly : Bool
  deriving DecidableEq, Repr, Inhabited

/-- The body of an ACK: the causes to clear, and a new mask when four bytes were sent (R182). -/
structure AckBody where
  clear : AttSet
  mask : Option AttSet
  deriving DecidableEq, Repr, Inhabited

/-- One piece of a PROFILE_WRITE: group number, word offset and data words (R188). -/
structure Piece where
  group : Nat
  offset : Nat
  words : List Word
  deriving DecidableEq, Repr, Inhabited

/-- The commands: one constructor for each row of spec/opcode_table.json. A request's body is `none` where its
length does not fit the request or it holds a code that is no value of its field (R175). -/
inductive Instr where
  /-- CS_N falls (R173). -/
  | transactionStart
  /-- CS_N rises after these bits were clocked in on SDI, the first one first (R173, R174). -/
  | transactionEnd (bits : List Bool)
  | nop
  /-- OPEN with the request's station (R10). -/
  | openDemand (station : Nat) (body : DemandBody)
  | amend (body : Option AmendBody)
  | retire (desc : Option Descriptor)
  | retireStation (station : Nat)
  | query (clear : Bool) (desc : Option Descriptor)
  | find (station : Nat) (clear : Bool) (filter : Option FindFilter)
  | renew (station : Nat) (desc : Option Descriptor)
  | readResources
  | readMode
  | readSpeeds
  | readGovernor
  | readTank (tank : Option Nat)
  | applyPreset (station : Nat) (preset : Option Nat)
  | readPresetResult
  | status
  | ack (body : Option AckBody)
  | readFault
  | ackFault (slot : Option FaultSlot)
  | resync
  | profileRead (group : Option Nat)
  | profileWrite (piece : Option Piece)
  | profileErase
  | profileLock
  | profileUnlock
  /-- VSTBY falls below 6.0 V (R191). -/
  | coldReset
  | warmReset (cause : WarmCause)
  /-- The last reset cause goes (R192 stage 1). -/
  | resetEnd
  /-- The 5 ms sample timer expires with the lines at these levels (R58). -/
  | inputSample (levels : Inputs)
  | stillnessExpiry
  | splitWatchExpiry
  /-- A rising edge on a speed input (R94). -/
  | pulseArrival (channel : SpeedId)
  | engineStopExpiry
  | speedWindow
  | graceExpiry
  | slipExpiry
  | rearmExpiry
  /-- One decoder sample of a level channel's A, B and Z; `markFirst` says which of a phase change and a reference
  mark found in the same sample the channel takes first (R101, R107). -/
  | levelSample (channel : TankId) (a b z : Bool) (markFirst : Bool)
  /-- The raw values PDIS and PINT are converted to (R113). -/
  | pressureConversion (pdis pint : Nat)
  | governorUpdate
  | tankUpdate
  | prepTimeout
  | confirmExpiry
  | settleExpiry
  | driftExpiry (res : Res)
  | adoptionWindowExpiry
  /-- The lease timer of the record in this slot expires (R81). -/
  | leaseExpiry (slot : Nat)
  | templateReadCompletion
  | profileWriteCompletion
  | profileEraseCompletion
  | validationCompletion
  /-- The discrete lines show these levels outside an input sample (R191). -/
  | driveOutputsFollowLines (levels : Inputs)
  deriving DecidableEq, Repr, Inhabited

end Sys2Proof
end

