-- ==== Sys2Proof/Machine/Blocks.lean ====
section
/-! DEFINITION. The state of each block as plain data, the values in use, the answers, and the values each block takes
at a reset. A timer is `none` while it is stopped and `some n` while it runs with n ms remaining (log 1). -/
namespace Sys2Proof.Machine

/-- A one-shot or periodic timer: stopped, or running with this many ms remaining. -/
abbrev Timer := Option Nat

/-! ## Values in use -/

/-- The values the blocks take from parameter group 0 (R4, R29, R57, R76, R93, R112, R117, R133). -/
structure Params where
  engageLimit : Nat
  prepTimeout : Nat
  confirmTime : Nat
  settleTime : Nat
  adoptionWindow : Nat
  slipTolerance : Nat
  ratioNum : Nat
  ratioDen : Nat
  cutoutSpeed : Nat
  roadPermittedA : Bool
  roadPermittedB : Bool
  retainA : Bool
  retainB : Bool
  debounce : Nat
  stillnessTime : Nat
  motionTolerance : Nat
  leasePeriod : Nat
  rollLimit : Nat
  overspeedGrace : Nat
  overspeedBand : Nat
  rollFloorMax : Nat
  enginePulses : Nat
  pumpPulses : Nat
  roadPulses : Nat
  pdisOffset : Int
  pdisSpan : Nat
  pdisLo : Nat
  pdisHi : Nat
  pintOffset : Int
  pintSpan : Nat
  pintLo : Nat
  pintHi : Nat
  idle : Nat
  pumpMax : Nat
  gain : Nat
  maxStep : Nat
  noFlowCeiling : Nat
  reserveCeiling : Nat
  intakeFloor : Int
  recoveryBand : Nat
  retreat : Nat
  recovery : Nat
  reliefLimit : Nat
  maxPressure : Nat
  stillWeight : Nat
  movingWeight : Nat
  deriving DecidableEq, Repr, Inhabited

/-- The last column of the parameter tables: the values used while the profile is blank or invalid. The slip
tolerance and ratio are not used then (R29) and the maximum pressure setpoint has no such column (log 27). -/
def invalidParams : Params where
  engageLimit := 1000
  prepTimeout := 10
  confirmTime := 1500
  settleTime := 250
  adoptionWindow := 30
  slipTolerance := 10
  ratioNum := 1
  ratioDen := 1
  cutoutSpeed := 50
  roadPermittedA := false
  roadPermittedB := false
  retainA := false
  retainB := false
  debounce := 4
  stillnessTime := 1000
  motionTolerance := 2
  leasePeriod := 2000
  rollLimit := 320
  overspeedGrace := 1500
  overspeedBand := 30
  rollFloorMax := 1500
  enginePulses := 120
  pumpPulses := 4
  roadPulses := 8000
  pdisOffset := 0
  pdisSpan := 2800
  pdisLo := 205
  pdisHi := 3890
  pintOffset := -100
  pintSpan := 1000
  pintLo := 205
  pintHi := 3890
  idle := 700
  pumpMax := 2200
  gain := 12
  maxStep := 80
  noFlowCeiling := 1200
  reserveCeiling := 1450
  intakeFloor := 20
  recoveryBand := 30
  retreat := 100
  recovery := 25
  reliefLimit := 1700
  maxPressure := 1600
  stillWeight := 8
  movingWeight := 2

/-! ## Demand Table -/

/-- The hold reasons (R7). -/
inductive HoldReason where
  | noPump | tankEmpty | lease | overspeed | speedCut | critical
  deriving DecidableEq, Repr, Inhabited

/-- A set of hold reasons: no reason twice (R4). -/
structure Reasons where
  noPump : Bool
  tankEmpty : Bool
  lease : Bool
  overspeed : Bool
  speedCut : Bool
  critical : Bool
  deriving DecidableEq, Repr, Inhabited

/-- No hold reason. -/
def Reasons.none : Reasons := ⟨false, false, false, false, false, false⟩

/-- Whether the set holds a reason. -/
def Reasons.has (h : HoldReason) (r : Reasons) : Bool :=
  match h with
  | .noPump => r.noPump
  | .tankEmpty => r.tankEmpty
  | .lease => r.lease
  | .overspeed => r.overspeed
  | .speedCut => r.speedCut
  | .critical => r.critical

/-- Adds a reason (`on`) or removes it; a reason already there is not added twice, an absent one not removed (R7). -/
def Reasons.set (h : HoldReason) (on : Bool) (r : Reasons) : Reasons :=
  match h with
  | .noPump => { r with noPump := on }
  | .tankEmpty => { r with tankEmpty := on }
  | .lease => { r with lease := on }
  | .overspeed => { r with overspeed := on }
  | .speedCut => { r with speedCut := on }
  | .critical => { r with critical := on }

/-- Whether the set is empty. -/
def Reasons.isNone (r : Reasons) : Bool :=
  !(r.noPump || r.tankEmpty || r.lease || r.overspeed || r.speedCut || r.critical)

/-- Why a record is FORFEIT (R4). -/
inductive ForfeitReason where
  | prepTimeout | noConfirm | pathLost | lockdown
  deriving DecidableEq, Repr, Inhabited

/-- The state of a record; the forfeit reason is present exactly while the state is FORFEIT (R4, R6). -/
inductive RecState where
  | queued | engaging | active | held
  | forfeit (reason : ForfeitReason)
  deriving DecidableEq, Repr, Inhabited

/-- The foam suspension of a foam part (R4). -/
inductive FoamSusp where
  | clear | foamEmpty | noFoamDrive
  deriving DecidableEq, Repr, Inhabited

/-- A foam part: its tank, its ratio in tenths of a percent, its suspension (R4). -/
structure FoamPart where
  tank : FoamTank
  ratio : Nat
  susp : FoamSusp
  deriving DecidableEq, Repr, Inhabited

/-- A record's kind with the fields that kind has (R4). -/
inductive Demand where
  | pumpStat (gov : GovMode) (setpoint : Nat)
  | pumpRoll (gov : GovMode) (setpoint : Nat)
  | aux (target : Target)
  | discharge (outlet : Nat) (source : Source) (flow : Nat) (foam : Option FoamPart)
  deriving DecidableEq, Repr, Inhabited

/-- The lease of a PUMP_ROLL record: remaining ms and whether its timer runs (R81); 0 and stopped in other kinds.
`overtaken` is the model's own: a request has restarted the timer in the millisecond it ran out in, so that its expiry does
not happen (R83, log 2). -/
structure Lease where
  remaining : Nat
  running : Bool
  overtaken : Bool
  deriving DecidableEq, Repr, Inhabited

/-- A demand record (R4). -/
structure Rec where
  demand : Demand
  station : Nat
  state : RecState
  reasons : Reasons
  lease : Lease
  changed : Bool
  deriving DecidableEq, Repr, Inhabited

/-- The condition of a slot (R1). -/
inductive SlotCond where
  | free | reserved
  | occupied (r : Rec)
  deriving DecidableEq, Repr, Inhabited

/-- One slot: its generation and its condition (R1). -/
structure Slot where
  gen : Nat
  cond : SlotCond
  deriving DecidableEq, Repr, Inhabited

/-- A slot after a reset: FREE with generation 0 (R3). -/
def Slot.reset : Slot := ⟨0, .free⟩

/-- The Demand Table: 24 slots and the governing list. -/
structure DT where
  slots : List Slot
  governing : List Descriptor
  deriving DecidableEq, Repr, Inhabited

/-- The table after a reset (R3). -/
def DT.reset : DT := ⟨List.replicate 24 Slot.reset, []⟩

/-! ## Resource Manager -/

/-- A position of a resource: ROAD or DISENGAGED, PUMP or ENGAGED, and UNKNOWN for the split shaft (R27). -/
inductive Pos where
  | disengaged | engaged | unknown
  deriving DecidableEq, Repr, Inhabited

/-- An operation of the engagement queue (R32). -/
inductive ShiftOp where
  | engage | disengage
  deriving DecidableEq, Repr, Inhabited

/-- The stages of a shift (R36). -/
inductive Stage where
  | prepare | actuate | settle
  deriving DecidableEq, Repr, Inhabited

/-- An entry of the engagement queue; `returned` marks one that RESYNC returned from PREPARE (R55). -/
structure Entry where
  res : Res
  op : ShiftOp
  returned : Bool
  deriving DecidableEq, Repr, Inhabited

/-- The shift in flight with the remaining ms of its running stage timer (R36). -/
structure Shift where
  res : Res
  op : ShiftOp
  stage : Stage
  timer : Nat
  deriving DecidableEq, Repr, Inhabited

/-- A resource record with its drift watch (R27, R45); `cmd` is true while the resource is commanded to its engaged
position, which is also what its output line drives. `cut` is never set for SPLIT and PTOR. -/
structure ResRec where
  cmd : Bool
  conf : Pos
  holders : Nat
  orphan : Bool
  cut : Bool
  driftTimer : Timer
  driftArmed : Bool
  deriving DecidableEq, Repr, Inhabited

/-- The Resource Manager. -/
structure RM where
  split : ResRec
  ptor : ResRec
  ptoa : ResRec
  ptob : ResRec
  stuck : Bool
  queue : List Entry
  shift : Option Shift
  closed : Bool
  adoption : Timer
  pumpPath : Bool
  pathBoth : Bool
  slipTimer : Timer
  rearmTimer : Timer
  slipArmed : Bool
  deriving DecidableEq, Repr, Inhabited

/-- A resource record after a reset (R45, R49), with the confirmed position the model names (log 6) and the command the
lines give (R191). -/
def ResRec.reset (conf : Pos) (cmd : Bool) : ResRec := ⟨cmd, conf, 0, false, false, none, true⟩

/-- The position SHIFT drives from the split-shaft switches (R191): PUMP while SHPUMP is set and SHROAD is clear. -/
def followShift (l : Inputs) : Bool := l.shpump && !l.shroad

/-- The position PTOR drives from its confirm (R191): never ENGAGED while SHIFT drives PUMP. -/
def followPtor (l : Inputs) : Bool := l.ptorOn && !followShift l

/-- The Resource Manager after a reset with the lines at these levels (R49, R191). -/
def RM.reset (l : Inputs) : RM where
  split := ResRec.reset .unknown (followShift l)
  ptor := ResRec.reset .disengaged (followPtor l)
  ptoa := ResRec.reset .disengaged l.ptoaOn
  ptob := ResRec.reset .disengaged l.ptobOn
  stuck := false
  queue := []
  shift := none
  closed := false
  adoption := none
  pumpPath := false
  pathBoth := false
  slipTimer := none
  rearmTimer := none
  slipArmed := true

/-! ## Mode Controller -/

/-- The apparatus modes (R65). -/
inductive Mode where
  | road | shifting | pump | roll | indeterminate | lockdown
  deriving DecidableEq, Repr, Inhabited

/-- The values of RANGE (R69). -/
inductive Range where
  | free | neutralOnly | pumpOnly | lowOnly
  deriving DecidableEq, Repr, Inhabited

/-- A throttle authority: what a mode allows (R70) and what THRMODE carries (R129). -/
inductive Authority where
  | off | full | floor
  deriving DecidableEq, Repr, Inhabited

/-- A debouncer: the accepted level and the run count (R58). -/
structure Debouncer where
  level : Bool
  run : Nat
  deriving DecidableEq, Repr, Inhabited

/-- The Mode Controller; `stillOvertaken` is the model's own: a pulse has restarted the stillness timer in the millisecond it ran
out in, so that its expiry does not happen (R63, log 2). -/
structure MC where
  mode : Mode
  derived : Bool
  inited : Bool
  deb : Eight Debouncer
  sampleTimer : Timer
  splitTimer : Timer
  splitReported : Bool
  still : Bool
  stillTimer : Timer
  stillOvertaken : Bool
  sp : Bool
  motionEp : Bool
  parkEp : Bool
  graceTimer : Timer
  overEp : Bool
  overSpeed : Nat
  parkhold : Bool
  range : Range
  deriving DecidableEq, Repr, Inhabited

/-- A debouncer after a reset: run count 0 (R59); before the first sample its level is held clear (log 5) and
READ_RESOURCES alone shows it (log 46). -/
def Debouncer.reset : Debouncer := ⟨false, 0⟩

/-- The Mode Controller after a reset (R59, R62, R63, R65, R69, R72, R73, R87), every timer stopped. -/
def MC.reset : MC where
  mode := .indeterminate
  derived := false
  inited := false
  deb := ⟨.reset, .reset, .reset, .reset, .reset, .reset, .reset, .reset⟩
  sampleTimer := none
  splitTimer := none
  splitReported := false
  still := false
  stillTimer := none
  stillOvertaken := false
  sp := false
  motionEp := false
  parkEp := false
  graceTimer := none
  overEp := false
  overSpeed := 0
  parkhold := true
  range := .neutralOnly

/-! ## Pulse Counting Unit -/

/-- A speed channel (R94): its fill is the ring's length and its ring sum the ring's sum. -/
structure SpeedChan where
  window : Nat
  ring : List Nat
  published : Nat
  deriving DecidableEq, Repr, Inhabited

/-- The counting modes (R102). -/
inductive XMode where
  | x1 | x2 | x4
  deriving DecidableEq, Repr, Inhabited

/-- The direction of the last counted edge (R100). -/
inductive Dir where
  | none | up | down
  deriving DecidableEq, Repr, Inhabited

/-- The state of a level channel (R100). -/
inductive LevelState where
  | unreferenced | referenced | fault
  deriving DecidableEq, Repr, Inhabited

/-- The decoder phase: the last sampled levels of A, B and Z (R100). -/
structure Phase where
  a : Bool
  b : Bool
  z : Bool
  deriving DecidableEq, Repr, Inhabited

/-- A level channel (R100). The phase is absent from a cold reset to the first sample after it (R110). -/
structure LevelChan where
  configured : Bool
  xmode : XMode
  refCount : Nat
  driftLimit : Nat
  count : Nat
  dir : Dir
  state : LevelState
  indexCap : Nat
  priorCap : Nat
  driftFlag : Bool
  faultPending : Bool
  rerefPending : Bool
  phase : Option Phase
  deriving DecidableEq, Repr, Inhabited

/-- The Pulse Counting Unit; `stopOvertaken` is the model's own: a pulse has restarted the engine stop timer in the millisecond it
ran out in, so that its expiry does not happen (R97, log 2). -/
structure PCU where
  eng : SpeedChan
  pump : SpeedChan
  road : SpeedChan
  engineStopped : Bool
  stopTimer : Timer
  stopOvertaken : Bool
  windowTimer : Timer
  l0 : LevelChan
  l1 : LevelChan
  l2 : LevelChan
  deriving DecidableEq, Repr, Inhabited

/-- A speed channel after a reset (R99). -/
def SpeedChan.reset : SpeedChan := ⟨0, [], 0⟩

/-- A level channel after a cold reset (R110). -/
def LevelChan.reset : LevelChan :=
  ⟨false, .x4, 1, 1000, 0, .none, .unreferenced, 0, 0, false, false, false, none⟩

/-- The speed channels after a reset (R97, R99), the level channels as given. -/
def PCU.reset (l0 l1 l2 : LevelChan) : PCU where
  eng := SpeedChan.reset
  pump := SpeedChan.reset
  road := SpeedChan.reset
  engineStopped := true
  stopTimer := none
  stopOvertaken := false
  windowTimer := none
  l0 := l0
  l1 := l1
  l2 := l2

/-! ## Pressure Inputs -/

/-- The state of a pressure channel (R113). -/
inductive PressState where
  | noData | valid | fault
  deriving DecidableEq, Repr, Inhabited

/-- A pressure channel (R113). -/
structure PressChan where
  state : PressState
  ring : List Nat
  oob : Nat
  inb : Nat
  published : Option Int
  deriving DecidableEq, Repr, Inhabited

/-- The Pressure Inputs. -/
structure PI where
  pdis : PressChan
  pint : PressChan
  convTimer : Timer
  deriving DecidableEq, Repr, Inhabited

/-- A pressure channel after a reset (R116). -/
def PressChan.reset : PressChan := ⟨.noData, [], 0, 0, none⟩

/-- The Pressure Inputs after a reset (R116). -/
def PI.reset : PI := ⟨PressChan.reset, PressChan.reset, none⟩

/-! ## Pump Governor -/

/-- The governor states (R118). -/
inductive GovState where
  | off | idleHold | pressure | speed | frozen
  deriving DecidableEq, Repr, Inhabited

/-- The Pump Governor (R118) and its outputs (R128, R129). -/
structure PG where
  state : GovState
  governing : Option Descriptor
  demand : Int
  ceiling : Int
  cPath : Int
  cCav : Int
  cSupply : Int
  cRoll : Int
  supplyCase : Nat
  lastStep : Int
  relief : Bool
  thrDuty : Int
  thrMode : Authority
  updateTimer : Timer
  deriving DecidableEq, Repr, Inhabited

/-- The governor after a reset, from the idle speed and pump maximum in use (R118). -/
def PG.reset (p : Params) : PG where
  state := .off
  governing := none
  demand := p.idle
  ceiling := p.pumpMax
  cPath := p.pumpMax
  cCav := p.pumpMax
  cSupply := p.pumpMax
  cRoll := p.pumpMax
  supplyCase := 4
  lastStep := 0
  relief := false
  thrDuty := 0
  thrMode := .off
  updateTimer := none

/-! ## Tank Monitor -/

/-- The volume states in rising order of concern (R139). -/
inductive VolState where
  | normal | low | reserve | empty
  deriving DecidableEq, Repr, Inhabited

/-- The tank states (R132). -/
inductive TankState where
  | vol (v : VolState)
  | sensorFault | unreferenced | absent
  deriving DecidableEq, Repr, Inhabited

/-- A tank's loaded configuration (R133). -/
structure TankCfg where
  zeroCount : Nat
  res : Nat
  height : Nat
  points : List (Nat × Nat)
  empty : Nat
  reserve : Nat
  low : Nat
  hyst : Nat
  deriving DecidableEq, Repr, Inhabited

/-- A tank record (R132); `cfg` is present exactly while a configuration is loaded, `chan` is the channel's state as the
Tank Monitor last read it (R150). The role is fixed by the tank's number. -/
structure Tank where
  present : Bool
  level : Option Nat
  raw : Option Nat
  filtered : Option Nat
  draw : Nat
  tte : Option Nat
  state : TankState
  lastVol : Option VolState
  seed : Bool
  cfg : Option TankCfg
  chan : LevelState
  deriving DecidableEq, Repr, Inhabited

/-- The Tank Monitor. -/
structure TK where
  t0 : Tank
  t1 : Tank
  t2 : Tank
  weight : Nat
  tankvlv : Bool
  foam1 : Bool
  foam2 : Bool
  updateTimer : Timer
  deriving DecidableEq, Repr, Inhabited

/-- An ABSENT tank with the values of R132 (R149). -/
def Tank.absent : Tank :=
  ⟨false, some 0, some 0, some 0, 0, some 65535, .absent, none, false, none, .unreferenced⟩

/-- The Tank Monitor after a reset (R148, R149). -/
def TK.reset : TK := ⟨Tank.absent, Tank.absent, Tank.absent, 0, false, false, false, none⟩

/-! ## Preset Engine -/

/-- A demand description of a template (R151), in range. -/
inductive Spec where
  | pumpStat (gov : GovMode) (setpoint : Nat)
  | pumpRoll (gov : GovMode) (setpoint : Nat)
  | aux (target : Target)
  | discharge (outlet : Nat) (source : Source) (flow : Nat) (foam : Option (FoamTank × Nat))
  deriving DecidableEq, Repr, Inhabited

/-- A template as read and kept (R154). -/
structure Template where
  station : Nat
  spec : Spec
  deriving DecidableEq, Repr, Inhabited

/-- The apply in flight (R152). -/
structure Apply where
  preset : Nat
  station : Nat
  count : Nat
  slots : List Nat
  readIndex : Nat
  timer : Nat
  templates : List Template
  deriving DecidableEq, Repr, Inhabited

/-- Why an apply was abandoned (R152). -/
inductive AbandonReason where
  | storeError | badArg | pathConflict | outletBusy | lockdown | resync
  deriving DecidableEq, Repr, Inhabited

/-- The preset result record (R152): the fields each status has. -/
inductive PresetResult where
  | none
  | running (preset station count : Nat) (slots : List Nat) (read : Nat)
  | done (preset station count : Nat) (descs : List (Descriptor × Bool))
  | abandoned (preset station count : Nat) (reason : AbandonReason) (index : Option Nat)
  deriving DecidableEq, Repr, Inhabited

/-- The Preset Engine; `counts` holds for each preset its template count, or none while it is not known (R151). -/
structure PE where
  apply : Option Apply
  result : PresetResult
  counts : List (Option Nat)
  deriving DecidableEq, Repr, Inhabited

/-- The Preset Engine after a reset (R151, R152). -/
def PE.reset : PE := ⟨none, .none, List.replicate 8 none⟩

/-! ## Fault Capture Unit -/

/-- The fault causes (R162). -/
inductive Cause where
  | wheelMotion | parkReleased | splitLost | splitStuck | pathBoth
  | shiftPrepTimeout | shiftNoConfirm | ptoLost | pumpSlip | overpressure
  | pdisSensor | pintSensor | levelSensor | levelDrift | rollOverspeed | profileBad
  deriving DecidableEq, Repr, Inhabited

/-- A capture (R161). -/
structure Capture where
  cause : Cause
  res : Option Res
  desc : Option Descriptor
  mode : Mode
  engine : Nat
  road : Nat
  discharge : Option Int
  deriving DecidableEq, Repr, Inhabited

/-- The Fault Capture Unit (R161); `also` is the also set in the order the causes joined it (log 48, DESIGN CHOICE). -/
structure FC where
  standard : Option Capture
  also : List Cause
  critical : Option Capture
  lockdown : Bool
  lockdownCap : Option Capture
  deriving DecidableEq, Repr, Inhabited

/-- The Fault Capture Unit after a reset (R161). -/
def FC.reset : FC := ⟨none, [], none, false, none⟩

/-! ## Profile Store -/

/-- A stored group: its data words and its check word (R186); `torn` while its check word stands erased by a write or an
erase that has not completed (R189, R190; log 23). -/
structure Group where
  data : List Word
  check : Word
  torn : Bool
  deriving DecidableEq, Repr, Inhabited

/-- The condition of a group (R186). -/
inductive GroupCond where
  | blank | good | bad
  deriving DecidableEq, Repr, Inhabited

/-- The profile's validity (R186). -/
inductive Validity where
  | blank | valid | invalid
  deriving DecidableEq, Repr, Inhabited

/-- The staging record of a PROFILE_WRITE (R188). -/
structure Staging where
  group : Nat
  words : List Word
  deriving DecidableEq, Repr, Inhabited

/-- The timed store operation in progress (R189, R190). -/
inductive StoreOp where
  | write (group : Nat) (data : List Word) (check : Word) (timer : Nat)
  | erase (timer : Nat)
  deriving DecidableEq, Repr, Inhabited

/-- The Profile Store; `conds` and `validity` are what other blocks see. -/
structure PS where
  groups : List Group
  conds : List GroupCond
  validity : Validity
  locked : Bool
  staging : Option Staging
  op : Option StoreOp
  validationTimer : Timer
  validated : Bool
  deriving DecidableEq, Repr, Inhabited

/-- The number of data words of a group (R186). -/
def groupSize (g : Nat) : Nat := if g = 0 then 48 else if g ≤ 3 then 45 else 37

/-- A BLANK group: every word reads 0xFFFF (R186). -/
def Group.blank (g : Nat) : Group := ⟨List.replicate (groupSize g) 0xFFFF, 0xFFFF, false⟩

/-- A store as delivered: BLANK, the lock flag clear (R186); validation has not run. -/
def PS.delivered : PS where
  groups := (List.range 12).map Group.blank
  conds := List.replicate 12 .blank
  validity := .invalid
  locked := false
  staging := none
  op := none
  validationTimer := none
  validated := false

/-! ## Command Port and answers -/

/-- The result codes of R178. STORE_ERROR is never the result of an answer frame: it stands as an abandon reason in the preset
result record (R152, R160). -/
inductive Result where
  | ok | clamped | accepted | empty | badFrame | unknown | badArg | stale | tableFull
  | pathConflict | outletBusy | notPermitted | notOwner | noProfile | locked | busy | lockdown | storeError
  deriving DecidableEq, Repr, Inhabited

/-- The last reset kind (R179). -/
inductive ResetKind where
  | pin | power | cold
  deriving DecidableEq, Repr, Inhabited

/-- What a STALE answer says of the named slot (R2). -/
inductive Condition where
  | free | reserved | occupied
  deriving DecidableEq, Repr, Inhabited

/-- One resource in a READ_RESOURCES answer (R56); `cut` is given for PTOA and PTOB. -/
structure ResView where
  cmd : Bool
  conf : Pos
  confirmInput : Pos
  holders : Nat
  orphan : Bool
  cut : Option Bool
  ready : Bool
  entry : Option Entry
  deriving DecidableEq, Repr, Inhabited

/-- A READ_RESOURCES answer (R56). -/
structure ResourcesView where
  split : ResView
  ptor : ResView
  ptoa : ResView
  ptob : ResView
  queue : List Entry
  shift : Option Shift
  adoption : Timer
  pumpPath : Bool
  deriving DecidableEq, Repr, Inhabited

/-- A READ_MODE answer (R75, R92); the accepted levels are absent until the first sample (R59). -/
structure ModeView where
  mode : Mode
  derived : Bool
  levels : Option Inputs
  runs : Eight Nat
  split : Pos
  splitTimer : Timer
  splitReported : Bool
  still : Bool
  stillTimer : Timer
  stationary : Bool
  motionEp : Bool
  parkEp : Bool
  parkhold : Bool
  range : Range
  allowed : Authority
  rolling : Bool
  graceTimer : Timer
  overEp : Bool
  overSpeed : Nat
  rollLimit : Nat
  band : Nat
  deriving DecidableEq, Repr, Inhabited

/-- One speed channel in a READ_SPEEDS answer (R111). -/
structure SpeedView where
  published : Nat
  window : Nat
  fill : Nat
  sum : Nat
  ring : List Nat
  deriving DecidableEq, Repr, Inhabited

/-- One level channel in a READ_SPEEDS answer (R111). -/
structure LevelView where
  configured : Bool
  xmode : XMode
  refCount : Nat
  driftLimit : Nat
  count : Nat
  dir : Dir
  state : LevelState
  indexCap : Nat
  priorCap : Nat
  driftFlag : Bool
  faultPending : Bool
  rerefPending : Bool
  deriving DecidableEq, Repr, Inhabited

/-- A READ_SPEEDS answer (R111). -/
structure SpeedsView where
  eng : SpeedView
  pump : SpeedView
  road : SpeedView
  engineStopped : Bool
  stopTimer : Timer
  l0 : LevelView
  l1 : LevelView
  l2 : LevelView
  deriving DecidableEq, Repr, Inhabited

/-- One pressure channel in a READ_GOVERNOR answer (R131). -/
structure PressView where
  state : PressState
  published : Option Int
  fill : Nat
  ring : List Nat
  oob : Nat
  inb : Nat
  deriving DecidableEq, Repr, Inhabited

/-- A READ_GOVERNOR answer (R131). -/
structure GovernorView where
  state : GovState
  governing : Option Descriptor
  demand : Int
  ceiling : Int
  cPath : Int
  cCav : Int
  cSupply : Int
  supplyCase : Nat
  cRoll : Int
  lastStep : Int
  relief : Bool
  thrDuty : Int
  thrMode : Authority
  idle : Nat
  pumpMax : Nat
  nextUpdate : Timer
  pdis : PressView
  pint : PressView
  deriving DecidableEq, Repr, Inhabited

/-- The role of a tank (R132). -/
inductive Role where
  | water | foam
  deriving DecidableEq, Repr, Inhabited

/-- What a READ_TANK answer gives of a present tank's configuration: capacity, thresholds and H (R150). -/
structure TankCfgView where
  capacity : Nat
  empty : Nat
  reserve : Nat
  low : Nat
  hyst : Nat
  deriving DecidableEq, Repr, Inhabited

/-- A READ_TANK answer (R150). -/
structure TankView where
  role : Role
  present : Bool
  state : TankState
  level : Option Nat
  raw : Option Nat
  filtered : Option Nat
  tte : Option Nat
  draw : Nat
  lastVol : Option VolState
  seed : Bool
  chan : LevelState
  cfg : Option TankCfgView
  weight : Nat
  nextUpdate : Timer
  tankvlv : Bool
  foam1 : Bool
  foam2 : Bool
  deriving DecidableEq, Repr, Inhabited

/-- The body of an answer, as the owning chapter's named fields (R176). -/
inductive Body where
  | empty
  | stale (cond : Condition) (gen : Nat)
  | opened (desc : Descriptor) (state : RecState) (reasons : Reasons) (stored : Option Nat)
  | amended (state : RecState) (reasons : Reasons) (demand : Demand)
  | count (n : Nat)
  | queried (r : Rec) (error : Bool)
  | found (descs : List Descriptor)
  | renewed (state : RecState) (reasons : Reasons) (remaining : Nat)
  | resources (v : ResourcesView)
  | mode (v : ModeView)
  | speeds (v : SpeedsView)
  | governor (v : GovernorView)
  | tank (v : TankView)
  | applied (count : Nat) (slots : List Nat)
  | presetResult (r : PresetResult) (remaining : Timer)
  | status (flags mask : AttSet) (top : Option Att) (mode : Mode) (kind : ResetKind) (resync : Bool)
  | attention (flags mask : AttSet)
  | faults (standard : Option Capture) (also : List Cause) (critical : Option Capture) (lockdown : Bool)
      (lockdownCap : Option Capture)
  | acked (emptied : Cause) (now : Option Cause)
  | group (number : Nat) (cond : GroupCond) (data : List Word) (check : Word) (validity : Validity) (locked : Bool)
  | staged (n : Nat)
  | badWord (offset : Nat)
  deriving DecidableEq, Repr, Inhabited

/-- An answer frame: code echo, result and body (R176). -/
structure Answer where
  code : Byte
  result : Result
  body : Body
  deriving DecidableEq, Repr, Inhabited

/-- The EMPTY answer of R179. -/
def Answer.reset : Answer := ⟨0, .empty, .empty⟩

/-- Whether a transaction is in progress; `aborted` is one that a RESYNC completion took as aborted (R173, R184). -/
inductive Txn where
  | idle | active | aborted
  deriving DecidableEq, Repr, Inhabited

/-- The Command Port. -/
structure CP where
  flags : AttSet
  mask : AttSet
  attn : Bool
  resetKind : ResetKind
  txn : Txn
  sdo : Option Answer
  answer : Answer
  resync : Bool
  deriving DecidableEq, Repr, Inhabited

/-- No attention cause. -/
def noAtt : AttSet := ⟨false, false, false, false, false, false, false, false, false⟩

/-- All nine attention causes. -/
def allAtt : AttSet := ⟨true, true, true, true, true, true, true, true, true⟩

/-- The Command Port after a reset of this kind (R179). -/
def CP.reset (k : ResetKind) : CP := ⟨noAtt, allAtt, false, k, .idle, none, Answer.reset, false⟩

/-! ## Supplies, reset and lines -/

/-- Whether a reset lasts, whether VMAIN is on, the discrete lines as last shown, and the model's own counter of free
values drawn (log 23). -/
structure Sys where
  resetActive : Bool
  vmain : Bool
  lines : Inputs
  free : Nat
  deriving DecidableEq, Repr, Inhabited

/-- The lines before any command has shown them: all clear (log 4). -/
def linesClear : Inputs := ⟨false, false, false, false, false, false, false, false⟩

end Sys2Proof.Machine
end

