-- ==== Sys2Proof/Config.lean ====
section
/-! DEFINITION. What the manual leaves open, as constants without a body: nothing can be proved of their values, so a
claim holds whatever they are. The places, widths and codes of the fields of request and answer bodies (logs 7, 8), the layout
and the codes of the stored groups (logs 18, 19, 20), and which words a stopped write has reached (log 23). -/
namespace Sys2Proof.Config
open Sys2Proof.Machine

/-- The values held in parameter group 0 (R4, R29, R57, R76, R93, R112, R117, R133). -/
inductive Param where
  | maxPressure
  | engageLimit | prepTimeout | confirmTime | settleTime | adoptionWindow | slipTolerance | ratioNum | ratioDen
  | cutoutSpeed | roadPermittedA | roadPermittedB | retainA | retainB
  | debounce | stillnessTime | motionTolerance
  | leasePeriod | rollLimit | overspeedGrace | overspeedBand | rollFloorMax
  | enginePulses | pumpPulses | roadPulses
  | pdisOffset | pdisSpan | pdisLo | pdisHi | pintOffset | pintSpan | pintLo | pintHi
  | idle | pumpMax | gain | maxStep | noFlowCeiling | reserveCeiling | intakeFloor | recoveryBand | retreat
  | recovery | reliefLimit
  | stillWeight | movingWeight
  deriving DecidableEq, Repr, Inhabited

/-- The fields of a stored template (R151) other than its check. -/
inductive TemplateField where
  | station | kind | gov | setpoint | target | outlet | source | flow | foamTank | foamRatio
  deriving DecidableEq, Repr, Inhabited

/-! ## Request bodies (log 7) -/

/-- The requests whose body has named fields and no byte layout in the manual; RETIRE, QUERY and RENEW each carry a
descriptor alone. -/
inductive BodyShape where
  | openDemand | amend | descriptor | find | tank | preset | group | faultSlot
  deriving DecidableEq, Repr, Inhabited

/-- The named fields of the request bodies. -/
inductive BodyField where
  | slot | gen | station | kind | gov | setpoint | target | outlet | source | flow | foamTank | foamRatio
  | states | changedOnly | tank | preset | group | faultSlot
  deriving DecidableEq, Repr, Inhabited

/-- The byte of a body at which a field begins, counted from the body's first (log 7). -/
opaque fieldStart : BodyShape → BodyField → Nat
/-- The number of bytes a field takes (log 7). -/
opaque fieldWidth : BodyShape → BodyField → Nat
/-- Whether the length of a body fits the request (R175, log 7). -/
opaque bodyFits : BodyShape → List Byte → Bool
/-- Whether a DISCHARGE body has a foam part (log 7). -/
opaque foamGiven : BodyShape → List Byte → Bool
/-- The codes of the four kinds in a request, none for a number that is no kind (log 7). -/
opaque kindCode : Nat → Option Kind
/-- The codes of PRESSURE and SPEED (log 7). -/
opaque govCode : Nat → Option GovMode
/-- The codes of targets A and B (log 7). -/
opaque targetCode : Nat → Option Target
/-- The codes of TANK and INTAKE (log 7). -/
opaque sourceCode : Nat → Option Source
/-- The codes of FIND's kind filter, one of a kind or of any kind (R19, log 7). -/
opaque filterKindCode : Nat → Option (Option Kind)
/-- The codes of FIND's state sets (R19, log 7). -/
opaque stateSetCode : Nat → Option StateSet
/-- The codes of FIND's changed-only filter, set and clear (R19, log 7). -/
opaque changedOnlyCode : Nat → Option Bool
/-- The codes of the two capture slots in an ACK_FAULT (R169, log 7). -/
opaque faultSlotCode : Nat → Option FaultSlot
/-- The attention cause a bit of an ACK set or mask names, none for a bit naming no cause (R182, log 7). -/
opaque causeOfBit : Fin 16 → Option Att

/-! ## Answer bodies (log 8) -/

/-- The five states of a record without the forfeit reason, which is a field of its own in an answer (R4, R18). -/
inductive StateName where
  | queued | engaging | active | held | forfeit
  deriving DecidableEq, Repr, Inhabited

/-- The values of an answer that are names, not numbers. SPLIT's positions and a take-off's are named apart (R27). -/
inductive Name where
  | kind (x : Kind)
  | gov (x : GovMode)
  | target (x : Target)
  | source (x : Source)
  | foamSusp (x : FoamSusp)
  | recState (x : StateName)
  | forfeit (x : ForfeitReason)
  | reasons (x : Reasons)
  | slotCond (x : Condition)
  | flag (x : Bool)
  | att (x : Att)
  | splitPos (x : Pos)
  | pos (x : Pos)
  | res (x : Res)
  | shiftOp (x : ShiftOp)
  | stage (x : Stage)
  | mode (x : Mode)
  | range (x : Range)
  | authority (x : Authority)
  | xmode (x : XMode)
  | dir (x : Dir)
  | levelState (x : LevelState)
  | pressState (x : PressState)
  | govState (x : GovState)
  | role (x : Role)
  | tankState (x : TankState)
  | volState (x : VolState)
  | cause (x : Cause)
  | resetKind (x : ResetKind)
  | groupCond (x : GroupCond)
  | validity (x : Validity)
  | presetStatus (x : Fin 4)
  | abandon (x : AbandonReason)
  deriving DecidableEq, Repr, Inhabited

/-- The number that stands for a name in an answer (log 8); STORE_ERROR's is R178's instead. -/
opaque nameNumber : Name → Nat
/-- The number of bytes of a field in the answer to a request code, by the number of fields and the field's place among them
(log 8). -/
opaque answerWidth : Byte → Nat → Nat → Nat
/-- The bytes that mark a field present or absent, by the same (log 8); there may be none. -/
opaque presenceBytes : Byte → Nat → Nat → Bool → List Byte

/-! ## Stored groups (logs 18 to 20) and stopped writes (log 23) -/

/-- The word of group 0 that holds a parameter (R186, log 18). -/
opaque paramWord : Param → Fin 48
/-- The codes of yes and no in a stored word, none for a word that is neither (log 18). -/
opaque yesNoCode : Word → Option Bool
/-- The codes of RETAIN (true) and RELEASE (false) in a stored word, none for a word that is neither (log 18). -/
opaque retainCode : Word → Option Bool
/-- The codes of WATER and FOAM in a stored word, none for a word that is neither (log 19). -/
opaque roleCode : Word → Option Role
/-- The codes of X1, X2 and X4 in a stored word, none for a word that is none of them (log 19). -/
opaque xmodeCode : Word → Option XMode
/-- The station and the fields that the six words of a template hold, its check byte cleared (R151, log 20). -/
opaque templateFields : List Word → Nat × DemandBody
/-- The word of a template that holds a field (log 20). -/
opaque templateWord : TemplateField → Fin 6
/-- Whether a word of a template that holds these words, its check byte cleared, is one that no field fills, so that R186 requires
it to be 0 (log 20). -/
opaque templateSpare : List Word → Fin 6 → Bool
/-- The byte of a template that holds its check, counted from the high byte of its first word (log 20). -/
opaque templateCheckByte : Fin 12
/-- Whether the word at this offset had been written when the n-th stopped write was stopped (R189, log 23). -/
opaque wordWritten : Nat → Nat → Bool

end Sys2Proof.Config
end

