-- ==== Sys2Proof/Machine/Bodies.lean ====
section
/-! DEFINITION. The bodies of the frames: numbers with the most significant byte first, signed ones in two's complement (R176),
the fields of a request body (log 7), and the named fields of each answer body (log 8) with the bytes they are sent as. -/
namespace Sys2Proof.Machine
open Sys2Proof.Config

/-! ## Numbers (R176) -/

/-- The number that bytes carry, the most significant first. -/
def numberOf (bytes : List Byte) : Nat := bytes.foldl (fun n b => 256 * n + b.toNat) 0

/-- The bytes that carry an integer in `width` bytes: its two's complement, the most significant byte first. -/
def bytesOfInt : Nat → Int → List Byte
  | 0, _ => []
  | width + 1, v => BitVec.ofInt 8 (v / 256 ^ width) :: bytesOfInt width v

/-! ## Request bodies (R10, R14, R2, R19, R150, R153, R187, R169, log 7) -/

/-- The number a field of a body carries. -/
def fieldOf (x : BodyShape) (bytes : List Byte) (f : BodyField) : Nat :=
  numberOf ((bytes.drop (fieldStart x f)).take (fieldWidth x f))

/-- The foam part a DISCHARGE body carries. -/
def foamField (x : BodyShape) (bytes : List Byte) : Option FoamFields :=
  if foamGiven x bytes then some ⟨fieldOf x bytes .foamTank, fieldOf x bytes .foamRatio⟩ else none

/-- The kind and the fields of that kind. -/
def demandFields (x : BodyShape) (bytes : List Byte) : DemandBody :=
  let n := fieldOf x bytes
  match kindCode (n .kind) with
  | some .pumpStat => .pumpStat (govCode (n .gov)) (n .setpoint)
  | some .pumpRoll => .pumpRoll (govCode (n .gov)) (n .setpoint)
  | some .aux => .aux (targetCode (n .target))
  | some .discharge => .discharge (n .outlet) (sourceCode (n .source)) (n .flow) (foamField x bytes)
  | none => .malformed

/-- An OPEN body (R10). -/
def openBody (bytes : List Byte) : DemandBody :=
  if bodyFits .openDemand bytes then demandFields .openDemand bytes else .malformed

/-- The descriptor a body carries. -/
def descriptorFields (x : BodyShape) (bytes : List Byte) : Descriptor := ⟨fieldOf x bytes .slot, fieldOf x bytes .gen⟩

/-- An AMEND body, none where its length does not fit (R14). -/
def amendBody (bytes : List Byte) : Option AmendBody :=
  if bodyFits .amend bytes then
    some ⟨descriptorFields .amend bytes, fieldOf .amend bytes .station, demandFields .amend bytes⟩
  else none

/-- The body of RETIRE, QUERY or RENEW, none where its length does not fit (R2). -/
def descriptorBody (bytes : List Byte) : Option Descriptor :=
  if bodyFits .descriptor bytes then some (descriptorFields .descriptor bytes) else none

/-- A FIND body, none where its length or a code does not fit (R19). -/
def findBody (bytes : List Byte) : Option FindFilter :=
  if bodyFits .find bytes then
    match filterKindCode (fieldOf .find bytes .kind), stateSetCode (fieldOf .find bytes .states),
      changedOnlyCode (fieldOf .find bytes .changedOnly) with
    | some k, some x, some c => some ⟨k, x, c⟩
    | _, _, _ => none
  else none

/-- A body that carries one number, none where its length does not fit. -/
def numberBody (x : BodyShape) (f : BodyField) (bytes : List Byte) : Option Nat :=
  if bodyFits x bytes then some (fieldOf x bytes f) else none

/-- An ACK_FAULT body, none where it names neither slot (R169). -/
def faultSlotBody (bytes : List Byte) : Option FaultSlot :=
  (numberBody .faultSlot .faultSlot bytes).bind faultSlotCode

/-! ## The fields of the answers (log 8)

Each answer's fields stand in the order in which its rule names them. -/

/-- What is sent for the fields of an answer: a number, or the mark of a field that may be absent, present or not, which stands
before the field itself. -/
inductive Item where
  | number (v : Int)
  | mark (present : Bool)
  deriving DecidableEq, Repr, Inhabited

/-- The value of an abandon reason: R178's STORE_ERROR is 0x1D. -/
def nameValue : Name → Nat
  | .abandon .storeError => 0x1D
  | x => nameNumber x

/-- A natural number as a field. -/
def Item.nat (n : Nat) : Item := .number n

/-- A name as a field. -/
def Item.name (x : Name) : Item := .number (nameValue x)

/-- A flag as a field. -/
def Item.flag (b : Bool) : Item := .name (.flag b)

/-- A field that is present, with its mark. -/
def presentField (l : List Item) : List Item := .mark true :: l

/-- A field of these items that may be absent, with its mark. -/
def optionalField {α : Type} (f : α → List Item) : Option α → List Item
  | some x => presentField (f x)
  | none => [.mark false]

/-- A number that may be absent. -/
def optNat : Option Nat → List Item := optionalField (fun n => [.nat n])

/-- A list with its count before it. -/
def counted {α : Type} (f : α → List Item) (l : List α) : List Item := .nat l.length :: l.flatMap f

/-- A descriptor's fields (R1). -/
def descriptorItems (d : Descriptor) : List Item := [.nat d.slot, .nat d.gen]

/-- The nine flags of a set of attention causes in priority order (R180, R181). -/
def attItems (x : AttSet) : List Item :=
  [.flag x.lockdown, .flag x.critical, .flag x.standard, .flag x.demandChanged, .flag x.modeChanged, .flag x.tankChanged,
    .flag x.presetDone, .flag x.profileDone, .flag x.resyncDone]

/-- The state of a record without its forfeit reason (R4). -/
def RecState.name : RecState → StateName
  | .queued => .queued
  | .engaging => .engaging
  | .active => .active
  | .held => .held
  | .forfeit _ => .forfeit

/-- The forfeit reason, present exactly while the state is FORFEIT (R4). -/
def RecState.forfeitReason : RecState → Option ForfeitReason
  | .forfeit why => some why
  | _ => none

/-- A record's state and hold reasons (R4). -/
def stateItems (state : RecState) (reasons : Reasons) : List Item :=
  [.name (.recState state.name), .name (.reasons reasons)]

/-- The number of a foam tank: 1 for T1, 2 for T2 (R4). -/
def foamTankNumber : FoamTank → Nat
  | .t1 => 1
  | .t2 => 2

/-- The fields of a foam part with its suspension (R4). -/
def FoamPart.items (f : FoamPart) : List Item :=
  [.nat (foamTankNumber f.tank), .nat f.ratio, .name (.foamSusp f.susp)]

/-- The fields that a demand's kind has (R4). -/
def Demand.items : Demand → List Item
  | .pumpStat g sp => [.name (.gov g), .nat sp]
  | .pumpRoll g sp => [.name (.gov g), .nat sp]
  | .aux t => [.name (.target t)]
  | .discharge o src flow foam => [.nat o, .name (.source src), .nat flow] ++ optionalField FoamPart.items foam

/-- The kind of a demand as a name. -/
def Demand.kindName : Demand → Name
  | .pumpStat _ _ => .kind .pumpStat
  | .pumpRoll _ _ => .kind .pumpRoll
  | .aux _ => .kind .aux
  | .discharge _ _ _ _ => .kind .discharge

/-- The lease remaining, which PUMP_ROLL records have (R4). -/
def Rec.leaseItems (r : Rec) : List Item :=
  match r.demand with
  | .pumpRoll _ _ => [.nat r.lease.remaining]
  | _ => []

/-- R18: a record as QUERY gives it, its changed flag as it stood before the request. -/
def Rec.items (r : Rec) : List Item :=
  [.name r.demand.kindName, .nat r.station] ++ stateItems r.state r.reasons
    ++ optionalField (fun why => [.name (.forfeit why)]) r.state.forfeitReason
    ++ r.demand.items ++ r.leaseItems ++ [.flag r.changed]

/-- An entry of the engagement queue (R32). -/
def Entry.items (e : Entry) : List Item := [.name (.res e.res), .name (.shiftOp e.op)]

/-- R56: one resource, its positions named by `pos`; the cut flag is given for PTOA and PTOB alone. -/
def ResView.items (pos : Pos → Name) (v : ResView) : List Item :=
  [.name (pos (if v.cmd then .engaged else .disengaged)), .name (pos v.conf), .name (pos v.confirmInput), .nat v.holders,
      .flag v.orphan]
    ++ (match v.cut with
      | some c => [.flag c]
      | none => [])
    ++ [.flag v.ready] ++ optionalField Entry.items v.entry

/-- The shift in flight (R56). -/
def Shift.items (sh : Shift) : List Item :=
  [.name (.res sh.res), .name (.shiftOp sh.op), .name (.stage sh.stage), .nat sh.timer]

/-- R56: READ_RESOURCES. -/
def ResourcesView.items (v : ResourcesView) : List Item :=
  v.split.items .splitPos ++ v.ptor.items .pos ++ v.ptoa.items .pos ++ v.ptob.items .pos
    ++ counted Entry.items v.queue ++ optionalField Shift.items v.shift ++ optNat v.adoption ++ [.flag v.pumpPath]

/-- R75: the accepted level, absent before the first sample (R59), and the run count of an input. -/
def inputItems (level : Option Bool) (run : Nat) : List Item := optionalField (fun b => [.flag b]) level ++ [.nat run]

/-- R75: the eight discrete inputs in their order. -/
def ModeView.inputs (v : ModeView) : List Item :=
  inputItems (v.levels.map Eight.park) v.runs.park ++ inputItems (v.levels.map Eight.neutral) v.runs.neutral
    ++ inputItems (v.levels.map Eight.pumprange) v.runs.pumprange ++ inputItems (v.levels.map Eight.shroad) v.runs.shroad
    ++ inputItems (v.levels.map Eight.shpump) v.runs.shpump ++ inputItems (v.levels.map Eight.ptorOn) v.runs.ptorOn
    ++ inputItems (v.levels.map Eight.ptoaOn) v.runs.ptoaOn ++ inputItems (v.levels.map Eight.ptobOn) v.runs.ptobOn

/-- R75, R92: READ_MODE. -/
def ModeView.items (v : ModeView) : List Item :=
  [.name (.mode v.mode), .flag v.derived] ++ v.inputs ++ [.name (.splitPos v.split)]
    ++ optNat v.splitTimer ++ [.flag v.splitReported, .flag v.still] ++ optNat v.stillTimer
    ++ [.flag v.stationary, .flag v.motionEp, .flag v.parkEp, .flag v.parkhold, .name (.range v.range),
      .name (.authority v.allowed), .flag v.rolling]
    ++ optNat v.graceTimer ++ [.flag v.overEp, .nat v.overSpeed, .nat v.rollLimit, .nat v.band]

/-- R111: one speed channel, its ring newest first. -/
def SpeedView.items (v : SpeedView) : List Item :=
  [.nat v.published, .nat v.window, .nat v.fill, .nat v.sum] ++ v.ring.map .nat

/-- R111: one level channel. -/
def LevelView.items (v : LevelView) : List Item :=
  [.flag v.configured, .name (.xmode v.xmode), .nat v.refCount, .nat v.driftLimit, .nat v.count, .name (.dir v.dir),
    .name (.levelState v.state), .nat v.indexCap, .nat v.priorCap, .flag v.driftFlag, .flag v.faultPending,
    .flag v.rerefPending]

/-- R111: READ_SPEEDS. -/
def SpeedsView.items (v : SpeedsView) : List Item :=
  v.eng.items ++ v.pump.items ++ v.road.items ++ [.flag v.engineStopped] ++ optNat v.stopTimer
    ++ v.l0.items ++ v.l1.items ++ v.l2.items

/-- R131: one pressure channel, its ring newest first. -/
def PressView.items (v : PressView) : List Item :=
  [.name (.pressState v.state)] ++ optionalField (fun p => [.number p]) v.published ++ [.nat v.fill] ++ v.ring.map .nat
    ++ [.nat v.oob, .nat v.inb]

/-- R131: READ_GOVERNOR. -/
def GovernorView.items (v : GovernorView) : List Item :=
  [.name (.govState v.state)] ++ optionalField descriptorItems v.governing
    ++ [.number v.demand, .number v.ceiling, .number v.cPath, .number v.cCav, .number v.cSupply, .nat v.supplyCase,
      .number v.cRoll, .number v.lastStep, .flag v.relief, .number v.thrDuty, .name (.authority v.thrMode), .nat v.idle,
      .nat v.pumpMax]
    ++ optNat v.nextUpdate ++ v.pdis.items ++ v.pint.items

/-- The capacity, the thresholds and H of a loaded configuration (R150). -/
def TankCfgView.items (c : TankCfgView) : List Item :=
  [.nat c.capacity, .nat c.empty, .nat c.reserve, .nat c.low, .nat c.hyst]

/-- R150: READ_TANK. -/
def TankView.items (v : TankView) : List Item :=
  [.name (.role v.role), .flag v.present, .name (.tankState v.state)]
    ++ optNat v.level ++ optNat v.raw ++ optNat v.filtered ++ optNat v.tte ++ [.nat v.draw]
    ++ optionalField (fun x => [.name (.volState x)]) v.lastVol ++ [.flag v.seed, .name (.levelState v.chan)]
    ++ optionalField TankCfgView.items v.cfg
    ++ [.nat v.weight] ++ optNat v.nextUpdate ++ [.flag v.tankvlv, .flag v.foam1, .flag v.foam2]

/-- R160: the result record, with the remaining time of the read in progress while RUNNING. -/
def PresetResult.items (remaining : Timer) : PresetResult → List Item
  | .none => [.name (.presetStatus 0)]
  | .running preset station count slots read =>
    [.name (.presetStatus 1), .nat preset, .nat station, .nat count] ++ slots.map .nat ++ [.nat read] ++ optNat remaining
  | .done preset station count descs =>
    [.name (.presetStatus 2), .nat preset, .nat station, .nat count]
      ++ descs.flatMap (fun d => descriptorItems d.1 ++ [.flag d.2])
  | .abandoned preset station count reason index =>
    [.name (.presetStatus 3), .nat preset, .nat station, .nat count, .name (.abandon reason)] ++ optNat index

/-- R161, R172: a capture with every field marked present or absent. -/
def Capture.items (c : Capture) : List Item :=
  presentField [.name (.cause c.cause)] ++ optionalField (fun x => [.name (.res x)]) c.res ++ optionalField descriptorItems c.desc
    ++ presentField [.name (.mode c.mode)] ++ presentField [.nat c.engine] ++ presentField [.nat c.road]
    ++ optionalField (fun p => [.number p]) c.discharge

/-- The named fields of an answer body; none of a body of length 0. -/
def Body.items : Body → List Item
  | .empty => []
  | .stale c gen => [.name (.slotCond c), .nat gen]
  | .opened d state reasons stored => descriptorItems d ++ stateItems state reasons ++ optNat stored
  | .amended state reasons demand => stateItems state reasons ++ demand.items
  | .count n => [.nat n]
  | .queried r error => r.items ++ [.flag error]
  | .found ds => counted descriptorItems ds
  | .renewed state reasons remaining => stateItems state reasons ++ [.nat remaining]
  | .resources v => v.items
  | .mode v => v.items
  | .speeds v => v.items
  | .governor v => v.items
  | .tank v => v.items
  | .applied n slots => .nat n :: slots.map .nat
  | .presetResult r remaining => r.items remaining
  | .status flags mask top m kind resync =>
    attItems flags ++ attItems mask ++ optionalField (fun x => [.name (.att x)]) top
      ++ [.name (.mode m), .name (.resetKind kind), .flag resync]
  | .attention flags mask => attItems flags ++ attItems mask
  | .faults standard also critical lockdown lockdownCap => -- the also set in the order it is kept (log 48)
    optionalField Capture.items standard ++ counted (fun c => [.name (.cause c)]) also ++ optionalField Capture.items critical
      ++ [.flag lockdown] ++ optionalField Capture.items lockdownCap
  | .acked emptied now => .name (.cause emptied) :: optionalField (fun c => [.name (.cause c)]) now
  | .group n cond data check validity locked =>
    [.nat n, .name (.groupCond cond)] ++ data.map (fun w => .nat w.toNat)
      ++ [.nat check.toNat, .name (.validity validity), .flag locked]
  | .staged n => [.nat n]
  | .badWord i => [.nat i]

/-! ## Answer bytes (R176) -/

/-- The bytes of the `i`-th of `n` items in an answer to a request code: a number with its most significant byte first and in
two's complement (R176). -/
def Item.bytes (code : Byte) (n i : Nat) : Item → List Byte
  | .number v => bytesOfInt (answerWidth code n i) v
  | .mark p => presenceBytes code n i p

/-- The bytes of items in their order, the first of them the `i`-th of `n`. -/
def itemBytes (code : Byte) (n : Nat) : Nat → List Item → List Byte
  | _, [] => []
  | i, x :: rest => x.bytes code n i ++ itemBytes code n (i + 1) rest

/-- The bytes of an answer body: its fields in order, at most 250 bytes; none for an empty body (R176, log 8). -/
def bodyBytes (code : Byte) (b : Body) : List Byte := (itemBytes code b.items.length 0 b.items).take 250

end Sys2Proof.Machine
end

