-- ==== Sys2Proof/Decode.lean ====
section
/-! DEFINITION. The command link's frames: the CRC-8 (R177), what a transaction's bytes hold (R173, R174), the request
a complete frame carries (R175, R178), the bytes and bits of an answer frame (R173, R176). No row of spec/opcode_table.json gives
bits, so `decodeTableWord` spells no command. -/
namespace Sys2Proof
open Sys2Proof.Machine

/-- One shift of the CRC register, generator x⁸ + x² + x + 1 (R177). -/
def crcShift (r : Byte) : Byte := if r.msb then (r <<< 1) ^^^ 0x07 else r <<< 1

/-- The register after one byte (R177). -/
def crcByte (r b : Byte) : Byte :=
  let x := r ^^^ b
  crcShift (crcShift (crcShift (crcShift (crcShift (crcShift (crcShift (crcShift x)))))))

/-- The CRC-8 over bytes in order, the register starting at 0xFF (R177). -/
def crc8 (bytes : List Byte) : Byte := bytes.foldl crcByte 0xFF

/-- The request sync (R176). -/
def requestSync : Byte := 0x5A

/-- The answer sync (R176). -/
def answerSync : Byte := 0xA6

/-- The number of a row of bits, the most significant first. -/
def numberOfBits (bits : List Bool) : Nat := bits.foldl (fun n b => 2 * n + b.toNat) 0

/-- R173: the bytes that bits clocked in give, the most significant bit of each first; a part byte at the end is dropped. -/
def bytesOfBits : List Bool → List Byte
  | b7 :: b6 :: b5 :: b4 :: b3 :: b2 :: b1 :: b0 :: rest =>
    BitVec.ofNat 8 (numberOfBits [b7, b6, b5, b4, b3, b2, b1, b0]) :: bytesOfBits rest
  | _ => []

/-- R173: the bits that bytes are clocked as, the most significant bit of each first. -/
def bitsOfBytes (bytes : List Byte) : List Bool :=
  bytes.flatMap (fun b => [b.getLsbD 7, b.getLsbD 6, b.getLsbD 5, b.getLsbD 4, b.getLsbD 3, b.getLsbD 2, b.getLsbD 1,
    b.getLsbD 0])

/-- What the bytes of a transaction hold (R174). -/
inductive Received where
  | nothing
  | badFrame (echo : Byte)
  | aborted
  | complete (code control : Byte) (body : List Byte) (crcOk : Bool)
  deriving DecidableEq, Repr

/-- R174: what the bytes received when CS_N rises hold. Only the first 5 + length bytes form the frame. -/
def receive : List Byte → Received
  | [] => .nothing
  | sync :: rest =>
    if sync ≠ requestSync then .badFrame (rest.headD 0)
    else match rest with
      | code :: control :: len :: tail =>
        if len.toNat > 60 then .badFrame code
        else if tail.length < len.toNat + 1 then .aborted
        else
          let body := tail.take len.toNat
          .complete code control body (crc8 (code :: control :: len :: body) == tail.getD len.toNat 0)
      | _ => .aborted

/-- The station of a request: the low three bits of byte 2 (R175). -/
def stationOf (control : Byte) : Nat := (control &&& 0x07).toNat

/-- The clear flag of a request: bit 7 of byte 2 (R175). -/
def clearOf (control : Byte) : Bool := control.msb

/-- Two bytes, most significant first (R176). -/
def wordOf (hi lo : Byte) : Word := hi ++ lo

/-- Whole words from bytes, most significant byte first; none where a byte is left over (R176). -/
def wordsOf : List Byte → Option (List Word)
  | [] => some []
  | [_] => none
  | hi :: lo :: rest => (wordsOf rest).map (wordOf hi lo :: ·)

/-- Adds a cause to a set. -/
def AttSet.insert (c : Att) (s : AttSet) : AttSet :=
  match c with
  | .lockdown => { s with lockdown := true }
  | .critical => { s with critical := true }
  | .standard => { s with standard := true }
  | .demandChanged => { s with demandChanged := true }
  | .modeChanged => { s with modeChanged := true }
  | .tankChanged => { s with tankChanged := true }
  | .presetDone => { s with presetDone := true }
  | .profileDone => { s with profileDone := true }
  | .resyncDone => { s with resyncDone := true }

/-- The set a two-byte field names; none where a bit names no cause (R182). -/
def attSetOf (w : Word) : Option AttSet :=
  (List.finRange 16).foldl (fun acc i =>
    match acc with
    | none => none
    | some s => if w.getLsbD i.val then (Config.causeOfBit i).map (fun c => s.insert c) else some s) (some noAtt)

/-- An ACK body: two bytes give the set, four the set and the mask, any other length does not fit (R182). -/
def ackOf : List Byte → Option AckBody
  | [a, b] => (attSetOf (wordOf a b)).map (fun c => ⟨c, none⟩)
  | [a, b, c, d] =>
    match attSetOf (wordOf a b), attSetOf (wordOf c d) with
    | some x, some m => some ⟨x, some m⟩
    | _, _ => none
  | _ => none

/-- A PROFILE_WRITE body: the group, the offset, then whole words (R188). -/
def pieceOf : List Byte → Option Piece
  | g :: o :: rest => (wordsOf rest).map (fun ws => ⟨g.toNat, o.toNat, ws⟩)
  | _ => none

/-- The request a code names (R178), with its station, its clear flag and its body's fields; none where the code is not
one of the table (UNKNOWN, R175). -/
def decodeRequest (code control : Byte) (body : List Byte) : Option Instr :=
  let st := stationOf control
  match code.toNat with
  | 0x00 => some .nop
  | 0x01 => some (.openDemand st (openBody body))
  | 0x02 => some (.amend (amendBody body))
  | 0x03 => some (.retire (descriptorBody body))
  | 0x04 => some (.retireStation st)
  | 0x05 => some (.query (clearOf control) (descriptorBody body))
  | 0x06 => some (.find st (clearOf control) (findBody body))
  | 0x07 => some (.renew st (descriptorBody body))
  | 0x10 => some .readResources
  | 0x11 => some .readMode
  | 0x12 => some .readSpeeds
  | 0x13 => some .readGovernor
  | 0x14 => some (.readTank (numberBody .tank .tank body))
  | 0x18 => some (.applyPreset st (numberBody .preset .preset body))
  | 0x19 => some .readPresetResult
  | 0x20 => some .status
  | 0x21 => some (.ack (ackOf body))
  | 0x22 => some .readFault
  | 0x23 => some (.ackFault (faultSlotBody body))
  | 0x24 => some .resync
  | 0x30 => some (.profileRead (numberBody .group .group body))
  | 0x31 => some (.profileWrite (pieceOf body))
  | 0x32 => some .profileErase
  | 0x33 => some .profileLock
  | 0x34 => some .profileUnlock
  | _ => none

/-- The result codes (R178). -/
def resultCode : Result → Byte
  | .ok => 0x00
  | .clamped => 0x01
  | .accepted => 0x02
  | .empty => 0x03
  | .badFrame => 0x10
  | .unknown => 0x11
  | .badArg => 0x12
  | .stale => 0x13
  | .tableFull => 0x14
  | .pathConflict => 0x15
  | .outletBusy => 0x16
  | .notPermitted => 0x17
  | .notOwner => 0x18
  | .noProfile => 0x19
  | .locked => 0x1A
  | .busy => 0x1B
  | .lockdown => 0x1C
  | .storeError => 0x1D

/-- The bytes of an answer frame (R176, R177). -/
def answerBytes (a : Answer) : List Byte :=
  let body := bodyBytes a.code a.body
  let checked := a.code :: resultCode a.result :: BitVec.ofNat 8 body.length :: body
  answerSync :: checked ++ [crc8 checked]

/-- The byte SDO carries as the k-th of a transaction: the frame shifted out, then 0x00 (R173). -/
def sdoByte (a : Answer) (k : Nat) : Byte := (answerBytes a).getD k 0

/-- The level SDO shows for the k-th bit of a transaction: each byte's most significant bit first (R173). -/
def sdoBit (a : Answer) (k : Nat) : Bool := (sdoByte a (k / 8)).getLsbD (7 - k % 8)

/-- The command a word of the opcode table's bits spells: no row of the table gives bits, so none. -/
def decodeTableWord (_nbits _w : Nat) : Option Instr := none

end Sys2Proof
end

