-- ==== Sys2Proof/Machine/State.lean ====
section
/-! DEFINITION. The machine's state: the blocks, the values in use, and the queue of commands; the reasons a step can
stop; the state after reset; and one update function per field of the state. -/
namespace Sys2Proof.Machine

/-- The whole part: every block's state (0.3), the values in use, the supplies and lines, and the commands waiting. -/
structure State where
  sys : Sys
  par : Params
  cp : CP
  dt : DT
  rm : RM
  mc : MC
  pcu : PCU
  pi : PI
  pg : PG
  tk : TK
  pe : PE
  fc : FC
  ps : PS
  pending : List Instr
  deriving DecidableEq, Repr, Inhabited

/-- Why a step stops with a fault: the spec stops the part nowhere, so there is no constructor and nothing raises one
(a fault of the apparatus is captured in State, R161). -/
inductive Fault where
  deriving DecidableEq, Repr

/-- Why a step is refused. -/
inductive Refusal where
  /-- Raised only by an arm of exec for a command that has no meaning yet; safe. No arm raises it. -/
  | notModelled (mnemonic : String)
  deriving DecidableEq, Repr

namespace State

def setSys (s : State) (x : Sys) : State := { s with sys := x }
def setPar (s : State) (x : Params) : State := { s with par := x }
def setCp (s : State) (x : CP) : State := { s with cp := x }
def setDt (s : State) (x : DT) : State := { s with dt := x }
def setRm (s : State) (x : RM) : State := { s with rm := x }
def setMc (s : State) (x : MC) : State := { s with mc := x }
def setPcu (s : State) (x : PCU) : State := { s with pcu := x }
def setPi (s : State) (x : PI) : State := { s with pi := x }
def setPg (s : State) (x : PG) : State := { s with pg := x }
def setTk (s : State) (x : TK) : State := { s with tk := x }
def setPe (s : State) (x : PE) : State := { s with pe := x }
def setFc (s : State) (x : FC) : State := { s with fc := x }
def setPs (s : State) (x : PS) : State := { s with ps := x }
def setPending (s : State) (x : List Instr) : State := { s with pending := x }

/-- The part right after the end of a cold reset of a part as delivered (log 3): every field at its reset value, the
periodic timers and the stillness timer just started (R192 stage 1), the store BLANK and unlocked (R186), no command
waiting. -/
def reset : State where
  sys := ⟨false, true, linesClear, 0⟩
  par := invalidParams
  cp := CP.reset .cold
  dt := DT.reset
  rm := RM.reset linesClear
  mc := { MC.reset with sampleTimer := some 5, stillTimer := some 1000 }
  pcu := { PCU.reset LevelChan.reset LevelChan.reset LevelChan.reset with windowTimer := some 100 }
  pi := { PI.reset with convTimer := some 10 }
  pg := { PG.reset invalidParams with updateTimer := some 100 }
  tk := { TK.reset with updateTimer := some 200 }
  pe := PE.reset
  fc := FC.reset
  ps := PS.delivered
  pending := []

end State

end Sys2Proof.Machine
end

