-- ==== Sys2Proof/Machine/Ops.lean ====
section
/-! DEFINITION. Access to the state: resources, debounced inputs and split position, slots and records, tanks and level
channels, and the small tests the rules share. -/
namespace Sys2Proof.Machine

/-! ## Resources (R27) -/

/-- The record of a resource. -/
def RM.get (m : RM) : Res → ResRec
  | .split => m.split
  | .ptor => m.ptor
  | .ptoa => m.ptoa
  | .ptob => m.ptob

/-- Stores the record of a resource. -/
def RM.put (m : RM) (r : Res) (x : ResRec) : RM :=
  match r with
  | .split => { m with split := x }
  | .ptor => { m with ptor := x }
  | .ptoa => { m with ptoa := x }
  | .ptob => { m with ptob := x }

/-- The four resources in the order the rules take them. -/
def allRes : List Res := [.split, .ptor, .ptoa, .ptob]

/-- The record of a resource. -/
def State.res (s : State) (r : Res) : ResRec := s.rm.get r

/-- Stores the record of a resource. -/
def State.setRes (s : State) (r : Res) (x : ResRec) : State := s.setRm (s.rm.put r x)

/-- The queue entry of a resource, if any (R27, R32). -/
def RM.entry (m : RM) (r : Res) : Option Entry := m.queue.find? (fun e => e.res == r)

/-- Whether the shift in flight is one of this resource (R28). -/
def RM.shiftOf (m : RM) (r : Res) : Bool :=
  match m.shift with
  | some sh => sh.res == r
  | none => false

/-- Whether an ENGAGE shift of the resource is in flight, in any stage. -/
def RM.engageOf (m : RM) (r : Res) : Bool :=
  match m.shift with
  | some sh => sh.res == r && sh.op == .engage
  | none => false

/-- R6: a resource is ready while it is confirmed and commanded at its engaged position with no shift of it in flight
and no DISENGAGE entry for it in the queue. -/
def RM.ready (m : RM) (r : Res) : Bool :=
  (m.get r).conf == .engaged && (m.get r).cmd && !m.shiftOf r
    && !m.queue.any (fun e => e.res == r && e.op == .disengage)

/-- R8, R55: an ENGAGE entry of the resource that RESYNC returned from PREPARE stands in the queue. -/
def RM.returnedEngage (m : RM) (r : Res) : Bool :=
  m.queue.any (fun e => e.res == r && e.op == .engage && e.returned)

/-- R31: a resource is wanted while it has holders, is not cut, and the part is not in lockdown. -/
def State.wanted (s : State) (r : Res) : Bool :=
  decide (0 < (s.res r).holders) && !(s.res r).cut && !s.fc.lockdown

/-- The position a flag of a take-off's confirm gives. -/
def Pos.ofBool (b : Bool) : Pos := if b then .engaged else .disengaged

/-! ## Debounced inputs (R58, R61) -/

/-- The accepted levels. -/
def MC.accepted (m : MC) : Inputs :=
  ⟨m.deb.park.level, m.deb.neutral.level, m.deb.pumprange.level, m.deb.shroad.level, m.deb.shpump.level,
    m.deb.ptorOn.level, m.deb.ptoaOn.level, m.deb.ptobOn.level⟩

/-- R61: the split position from the two split-shaft switches. -/
def splitOf (l : Inputs) : Pos :=
  if l.shroad && !l.shpump then .disengaged else if l.shpump && !l.shroad then .engaged else .unknown

/-- The split position; UNKNOWN until the inputs have their first values (log 5). -/
def MC.splitPos (m : MC) : Pos := if m.inited then splitOf m.accepted else .unknown

/-- The present value of a resource's confirm input (R27). -/
def State.input (s : State) : Res → Pos
  | .split => s.mc.splitPos
  | .ptor => .ofBool s.mc.accepted.ptorOn
  | .ptoa => .ofBool s.mc.accepted.ptoaOn
  | .ptob => .ofBool s.mc.accepted.ptobOn

/-- The position an operation moves to. -/
def ShiftOp.target : ShiftOp → Pos
  | .engage => .engaged
  | .disengage => .disengaged

/-! ## The profile as other blocks test it (R186) -/

/-- Whether the profile is VALID as other blocks see it. -/
def State.profileValid (s : State) : Bool := s.ps.validity == .valid

/-- Whether a profile write or erase is in progress. -/
def State.storeBusy (s : State) : Bool := s.ps.op.isSome

/-! ## Slots and records (R1, R4) -/

/-- A slot of the table; a number over 23 reads as a FREE slot and is never asked for (log 39). -/
def DT.slot (t : DT) (i : Nat) : Slot := t.slots.getD i Slot.reset

/-- Stores a slot. -/
def DT.setSlot (t : DT) (i : Nat) (x : Slot) : DT := { t with slots := t.slots.set i x }

/-- The record a slot holds. -/
def Slot.record (x : Slot) : Option Rec :=
  match x.cond with
  | .occupied r => some r
  | _ => none

/-- Whether a slot is FREE. -/
def Slot.isFree (x : Slot) : Bool := x.cond == .free

/-- A slot emptied: FREE, its generation advanced by 1 modulo 16 (R1). -/
def Slot.emptied (x : Slot) : Slot := ⟨(x.gen + 1) % 16, .free⟩

/-- The slot with its record changed by `f`. -/
def Slot.mapRec (f : Rec → Rec) (x : Slot) : Slot :=
  match x.cond with
  | .occupied r => { x with cond := .occupied (f r) }
  | _ => x

/-- The record a descriptor names (R2). -/
def DT.lookup (t : DT) (d : Descriptor) : Option Rec :=
  if (t.slot d.slot).gen = d.gen then (t.slot d.slot).record else none

/-- The records of the table in ascending slot order. -/
def DT.records (t : DT) : List Rec := t.slots.filterMap Slot.record

/-- Whether a record is FORFEIT. -/
def Rec.isForfeit (r : Rec) : Bool :=
  match r.state with
  | .forfeit _ => true
  | _ => false

/-- The kind of a record (R4). -/
def Demand.kind : Demand → Kind
  | .pumpStat _ _ => .pumpStat
  | .pumpRoll _ _ => .pumpRoll
  | .aux _ => .aux
  | .discharge _ _ _ _ => .discharge

/-- Whether the record is of a pump kind. -/
def Rec.isPump (r : Rec) : Bool := r.demand.kind == .pumpStat || r.demand.kind == .pumpRoll

/-- Whether the record is a DISCHARGE. -/
def Rec.isDischarge (r : Rec) : Bool := r.demand.kind == .discharge

/-- Whether the record is a DISCHARGE with source TANK. -/
def Rec.fromTank (r : Rec) : Bool :=
  match r.demand with
  | .discharge _ .tank _ _ => true
  | _ => false

/-- Whether the record is a DISCHARGE with source INTAKE. -/
def Rec.fromIntake (r : Rec) : Bool :=
  match r.demand with
  | .discharge _ .intake _ _ => true
  | _ => false

/-- The foam part of a DISCHARGE record, where present. -/
def Demand.foam : Demand → Option FoamPart
  | .discharge _ _ _ f => f
  | _ => none

/-- The drive resource a kind names (R5). -/
def Demand.resource : Demand → Option Res
  | .pumpStat _ _ => some .split
  | .pumpRoll _ _ => some .ptor
  | .aux .a => some .ptoa
  | .aux .b => some .ptob
  | .discharge _ _ _ _ => none

/-- Whether the record holds a resource (R5): its kind names it and the record is not FORFEIT. -/
def Rec.holds (r : Rec) (x : Res) : Bool := r.demand.resource == some x && !r.isForfeit

/-- R20: the governing demand is the first record of the governing list whose state is ACTIVE. -/
def DT.governingDemand (t : DT) : Option (Descriptor × Rec) :=
  t.governing.findSome? (fun d =>
    match t.lookup d with
    | some r => if r.state = .active then some (d, r) else none
    | none => none)

/-! ## Tanks and level channels -/

/-- A tank record. -/
def TK.get (k : TK) : TankId → Tank
  | .t0 => k.t0
  | .t1 => k.t1
  | .t2 => k.t2

/-- Stores a tank record. -/
def TK.put (k : TK) (i : TankId) (x : Tank) : TK :=
  match i with
  | .t0 => { k with t0 := x }
  | .t1 => { k with t1 := x }
  | .t2 => { k with t2 := x }

/-- The tank record of a foam tank. -/
def foamTankId : FoamTank → TankId
  | .t1 => .t1
  | .t2 => .t2

/-- A level channel. -/
def PCU.level (p : PCU) : TankId → LevelChan
  | .t0 => p.l0
  | .t1 => p.l1
  | .t2 => p.l2

/-- Stores a level channel. -/
def PCU.setLevel (p : PCU) (i : TankId) (x : LevelChan) : PCU :=
  match i with
  | .t0 => { p with l0 := x }
  | .t1 => { p with l1 := x }
  | .t2 => { p with l2 := x }

/-- T0, T1 and T2 in turn. -/
def allTanks : List TankId := [.t0, .t1, .t2]

/-- The road ring sum as last published (R98); the ring changes only at a publication. -/
def PCU.roadSum (p : PCU) : Nat := p.road.ring.sum

/-! ## Time (log 1) -/

/-- One millisecond of a timer; a timer at 0 waits for its expiry. -/
def Timer.tick (t : Timer) : Timer := t.map (· - 1)

/-- Whether a timer runs and its time has run out: its expiry stands beside the command being taken (R63, R97). -/
def Timer.due (t : Timer) : Bool := t == some 0

/-- Whether a lease has run out and waits for its expiry (R83). -/
def Lease.due (l : Lease) : Bool := l.running && l.remaining == 0

/-- One millisecond of a record's lease timer (R81). -/
def Rec.tick (r : Rec) : Rec :=
  { r with lease :=
    ⟨if r.lease.running then r.lease.remaining - 1 else r.lease.remaining, r.lease.running, false⟩ }

/-- One millisecond of a resource's drift timer. -/
def ResRec.tick (x : ResRec) : ResRec := { x with driftTimer := Timer.tick x.driftTimer }

/-- One millisecond of a store operation. -/
def StoreOp.tick : StoreOp → StoreOp
  | .write g d c t => .write g d c (t - 1)
  | .erase t => .erase (t - 1)

/-- One millisecond passes: every running timer counts down, an expiry overtaken in the millisecond before is over with it, and
nothing else changes (logs 1, 2). -/
def tick (s : State) : State :=
  let s := s.setDt { s.dt with slots := s.dt.slots.map (Slot.mapRec Rec.tick) }
  let s := s.setRm { s.rm with
    split := s.rm.split.tick, ptor := s.rm.ptor.tick, ptoa := s.rm.ptoa.tick, ptob := s.rm.ptob.tick,
    shift := s.rm.shift.map (fun sh => { sh with timer := sh.timer - 1 }),
    adoption := Timer.tick s.rm.adoption, slipTimer := Timer.tick s.rm.slipTimer,
    rearmTimer := Timer.tick s.rm.rearmTimer }
  let s := s.setMc { s.mc with
    sampleTimer := Timer.tick s.mc.sampleTimer, splitTimer := Timer.tick s.mc.splitTimer,
    stillTimer := Timer.tick s.mc.stillTimer, stillOvertaken := false, graceTimer := Timer.tick s.mc.graceTimer }
  let s := s.setPcu { s.pcu with
    stopTimer := Timer.tick s.pcu.stopTimer, stopOvertaken := false, windowTimer := Timer.tick s.pcu.windowTimer }
  let s := s.setPi { s.pi with convTimer := Timer.tick s.pi.convTimer }
  let s := s.setPg { s.pg with updateTimer := Timer.tick s.pg.updateTimer }
  let s := s.setTk { s.tk with updateTimer := Timer.tick s.tk.updateTimer }
  let s := s.setPe { s.pe with apply := s.pe.apply.map (fun a => { a with timer := a.timer - 1 }) }
  s.setPs { s.ps with
    op := s.ps.op.map StoreOp.tick, validationTimer := Timer.tick s.ps.validationTimer }

end Sys2Proof.Machine
end

