-- ==== Sys2Proof/Machine/Flags.lean ====
section
/-! DEFINITION. The attention flags, their mask and ATTN (R180), and the changed flags of the records (R21). -/
namespace Sys2Proof.Machine

/-! ## Attention (R180) -/

/-- Takes a set of causes out of a set. -/
def minusAtt (s t : AttSet) : AttSet :=
  ⟨s.lockdown && !t.lockdown, s.critical && !t.critical, s.standard && !t.standard,
    s.demandChanged && !t.demandChanged, s.modeChanged && !t.modeChanged, s.tankChanged && !t.tankChanged,
    s.presetDone && !t.presetDone, s.profileDone && !t.profileDone, s.resyncDone && !t.resyncDone⟩

/-- Whether a set holds a cause. -/
def hasAtt (c : Att) (s : AttSet) : Bool :=
  match c with
  | .lockdown => s.lockdown
  | .critical => s.critical
  | .standard => s.standard
  | .demandChanged => s.demandChanged
  | .modeChanged => s.modeChanged
  | .tankChanged => s.tankChanged
  | .presetDone => s.presetDone
  | .profileDone => s.profileDone
  | .resyncDone => s.resyncDone

/-- R180: ATTN is asserted while LOCKDOWN is set, or any other flag whose enable is set. -/
def attnLevel (flags mask : AttSet) : Bool :=
  flags.lockdown || (flags.critical && mask.critical) || (flags.standard && mask.standard)
    || (flags.demandChanged && mask.demandChanged) || (flags.modeChanged && mask.modeChanged)
    || (flags.tankChanged && mask.tankChanged) || (flags.presetDone && mask.presetDone)
    || (flags.profileDone && mask.profileDone) || (flags.resyncDone && mask.resyncDone)

/-- The nine causes in priority order (R180). -/
def allCauses : List Att :=
  [.lockdown, .critical, .standard, .demandChanged, .modeChanged, .tankChanged, .presetDone, .profileDone, .resyncDone]

/-- The top cause: the highest-priority flag set, whatever the mask (R180). -/
def topCause (flags : AttSet) : Option Att := allCauses.find? (fun c => hasAtt c flags)

/-- Stores flags and mask and re-evaluates ATTN in the same event (R180). -/
def setAttention (flags mask : AttSet) (s : State) : State :=
  s.setCp { s.cp with flags := flags, mask := mask, attn := attnLevel flags mask }

/-- The event of an attention cause: its flag is set (R180). -/
def raiseAtt (c : Att) (s : State) : State := setAttention (s.cp.flags.insert c) s.cp.mask s

/-- Clears the named flags. -/
def clearAtt (t : AttSet) (s : State) : State := setAttention (minusAtt s.cp.flags t) s.cp.mask s

/-! ## Changed flags (R21) -/

/-- What a change of which sets a record's changed flag (R21): the state with its forfeit reason, the hold reasons, the
foam suspension. -/
def Rec.watched (r : Rec) : RecState × Reasons × Option FoamSusp :=
  (r.state, r.reasons, r.demand.foam.map FoamPart.susp)

/-- Whether a slot's record ends the event changed from what `before` holds (R21). A record that `before` does not
hold was created since and counts as unchanged. -/
def slotChanged (before now : Slot) : Bool :=
  match before.record, now.record with
  | some r0, some r => before.gen == now.gen && r.watched != r0.watched
  | _, _ => false

/-- Sets the changed flag of a record. -/
def Rec.mark (r : Rec) : Rec := { r with changed := true }

/-- The slots with the changed flag set in every record that `before` holds otherwise. -/
def markSlots : List Slot → List Slot → List Slot
  | b :: bs, x :: xs => (if slotChanged b x then x.mapRec Rec.mark else x) :: markSlots bs xs
  | _, xs => xs

/-- Whether some record's changed flag goes from clear to set between two tables. -/
def anyRaised : List Slot → List Slot → Bool
  | x :: xs, y :: ys =>
    (match x.record, y.record with
      | some r, some r' => !r.changed && r'.changed
      | _, _ => false) || anyRaised xs ys
  | _, _ => false

/-- Stores slots whose changed flags may have gone from clear to set; each such change sets DEMAND_CHANGED (R21). -/
def storeMarked (slots : List Slot) (s : State) : State :=
  let s' := s.setDt { s.dt with slots := slots }
  if anyRaised s.dt.slots slots then raiseAtt .demandChanged s' else s'

/-- R21 at the end of an event: the records that differ from `base` get their changed flags. -/
def markChanged (base : List Slot) (s : State) : State := storeMarked (markSlots base s.dt.slots) s

/-- R21, R184 step 3: the changed flag of every occupied slot's record is set. -/
def markAll (s : State) : State := storeMarked (s.dt.slots.map (Slot.mapRec Rec.mark)) s

end Sys2Proof.Machine
end

