-- ==== Sys2Proof/Machine/Outputs.lean ====
section
/-! DEFINITION. What other blocks' events do at once to the Pump Governor (R119, R121, R128, R129) and to the Tank
Monitor's draws and valves (R141, R143, R146, R147). -/
namespace Sys2Proof.Machine

/-! ## Governor -/

/-- R70: the throttle authority a mode allows. -/
def allowance (m : Mode) (pumprange : Bool) : Authority :=
  match m with
  | .pump => if pumprange then .full else .off
  | .roll => .floor
  | _ => .off

/-- The throttle authority the present mode allows. -/
def State.allowed (s : State) : Authority := allowance s.mc.mode s.mc.accepted.pumprange

/-- R129: THRMODE from the governor's state and the mode. -/
def thrModeOf (g : GovState) (m : Mode) : Authority :=
  match g, m with
  | .off, _ => .off
  | _, .pump => .full
  | .idleHold, .roll => .off
  | _, .roll => .floor
  | _, _ => .off

/-- R128: the THR duty in per mille. -/
def dutyOf (p : Params) (demand : Int) : Int :=
  ((demand - p.idle) * 1000).tdiv ((p.pumpMax : Int) - p.idle)

/-- R119: the OFF conditions. -/
def State.offCondition (s : State) : Bool :=
  !s.profileValid || !s.rm.pumpPath || s.allowed == .off || s.fc.critical.isSome || s.fc.lockdown

/-- R119: entry to OFF. A governor already OFF is left as it is. -/
def govOff (s : State) : State :=
  if s.pg.state = .off then s else
    s.setPg { s.pg with
      state := .off, governing := none, demand := s.par.idle, cCav := s.par.pumpMax, relief := false, lastStep := 0,
      thrDuty := 0, thrMode := .off }

/-- R79, R121: the governing list has lost its last ACTIVE record. -/
def govListLost (s : State) : State :=
  if s.pg.state = .off then s else
    s.setPg { s.pg with state := .idleHold, governing := none, thrMode := thrModeOf .idleHold s.mc.mode }

/-- The ceiling of R123 from its terms. -/
def ceilingOf (p : Params) (g : PG) : Int := max p.idle (min (min g.cPath g.cCav) (min g.cSupply g.cRoll))

/-- R121, R85 step 2: a roll overspeed episode starts. -/
def govOverspeedStart (s : State) : State :=
  let g := { s.pg with cRoll := (s.par.idle : Int) }
  let c := ceilingOf s.par g
  let d := clampInt g.demand s.par.idle c
  s.setPg { g with ceiling := c, demand := d, thrDuty := dutyOf s.par d }

/-- R121, R86 step 2: a roll overspeed episode ends. -/
def govOverspeedEnd (s : State) : State := s.setPg { s.pg with cRoll := s.par.pumpMax }

/-! ## Draws and valves -/

/-- The flow an ACTIVE record draws from T0 (R143). -/
def Rec.waterDraw (r : Rec) : Nat :=
  match r.state, r.demand with
  | .active, .discharge _ .tank flow _ => flow
  | _, _ => 0

/-- The concentrate an ACTIVE record draws from a foam tank (R143). -/
def Rec.foamDraw (t : FoamTank) (r : Rec) : Nat :=
  match r.state, r.demand with
  | .active, .discharge _ _ flow (some f) => if f.tank = t ∧ f.susp = .clear then flow * f.ratio / 1000 else 0
  | _, _ => 0

/-- R143: the draw total of a tank. -/
def DT.drawOf (t : DT) : TankId → Nat
  | .t0 => (t.records.map Rec.waterDraw).sum
  | .t1 => (t.records.map (Rec.foamDraw .t1)).sum
  | .t2 => (t.records.map (Rec.foamDraw .t2)).sum

/-- R141: the time to empty of a filtered volume at a draw. -/
def tteOf (filtered draw : Nat) : Nat := if draw = 0 then 65535 else min 65535 (filtered * 60 / draw)

/-- R141: the time to empty of a tank: absent while the filtered volume is, 65535 while ABSENT. -/
def Tank.withTte (k : Tank) : Tank :=
  if k.state = .absent then { k with tte := some 65535 } else { k with tte := k.filtered.map (fun v => tteOf v k.draw) }

/-- Stores a tank's draw total and recomputes its time to empty; an ABSENT tank's draw is 0 (R132, R143). -/
def Tank.withDraw (d : Nat) (k : Tank) : Tank :=
  ({ k with draw := if k.state = .absent then 0 else d } : Tank).withTte

/-- R146: whether TANKVLV is driven open. -/
def State.tankValve (s : State) : Bool :=
  s.rm.pumpPath && s.dt.records.any (fun r => r.state == .active && r.fromTank)
    && s.tk.t0.state != .vol .empty && !s.fc.lockdown

/-- R146, R147: evaluates TANKVLV, FOAM1 and FOAM2. -/
def driveValves (s : State) : State :=
  s.setTk { s.tk with
    tankvlv := s.tankValve,
    foam1 := decide (0 < s.tk.t1.draw) && !s.fc.lockdown,
    foam2 := decide (0 < s.tk.t2.draw) && !s.fc.lockdown }

/-- R143: recomputes the draw totals, then the times to empty, then the valves. -/
def recomputeDraws (s : State) : State :=
  driveValves (s.setTk { s.tk with
    t0 := s.tk.t0.withDraw (s.dt.drawOf .t0),
    t1 := s.tk.t1.withDraw (s.dt.drawOf .t1),
    t2 := s.tk.t2.withDraw (s.dt.drawOf .t2) })

/-- R145: the suspension rule for a foam part naming a tank. -/
def State.suspension (s : State) (t : FoamTank) : FoamSusp :=
  if (s.res .ptoa).conf ≠ .engaged then .noFoamDrive
  else if (s.tk.get (foamTankId t)).state = .vol .empty then .foamEmpty
  else .clear

end Sys2Proof.Machine
end

