-- ==== Sys2Proof/Machine/Operands.lean ====
section
/-! DEFINITION. The fields of the requests: their ranges (R10 order 1), the tanks they may name, the clamps of R11, the
descriptor check of R2. -/
namespace Sys2Proof.Machine

/-- A station is 1 to 6. -/
def stationOk (st : Nat) : Bool := 1 ≤ st && st ≤ 6

/-- A foam part in range: tank 1 or 2, ratio 1 to 100 (R10). -/
def foamOf (f : FoamFields) : Option (FoamTank × Nat) :=
  if 1 ≤ f.ratio ∧ f.ratio ≤ 100 then
    (if f.tank = 1 then some (.t1, f.ratio) else if f.tank = 2 then some (.t2, f.ratio) else none)
  else none

/-- The demand a body describes, where every field lies in its range (R10 order 1); none otherwise. -/
def specOf : DemandBody → Option Spec
  | .pumpStat (some g) sp => some (.pumpStat g sp)
  | .pumpRoll (some g) sp => some (.pumpRoll g sp)
  | .aux (some t) => some (.aux t)
  | .discharge o (some src) flow none => if o ≤ 7 then some (.discharge o src flow none) else none
  | .discharge o (some src) flow (some f) =>
    if o ≤ 7 then (foamOf f).map (fun p => .discharge o src flow (some p)) else none
  | _ => none

/-- The foam tank a demand names. -/
def Spec.foamTank : Spec → Option FoamTank
  | .discharge _ _ _ (some (t, _)) => some t
  | _ => none

/-- The outlet a demand names. -/
def Spec.outlet : Spec → Option Nat
  | .discharge o _ _ _ => some o
  | _ => none

/-- Whether a demand draws from T0. -/
def Spec.fromTank : Spec → Bool
  | .discharge _ .tank _ _ => true
  | _ => false

/-- The kind of a demand. -/
def Spec.kind : Spec → Kind
  | .pumpStat _ _ => .pumpStat
  | .pumpRoll _ _ => .pumpRoll
  | .aux _ => .aux
  | .discharge _ _ _ _ => .discharge

/-- R134: whether a tank is present for the checks of the Demand Table. -/
def State.tankPresent (s : State) (t : TankId) : Bool := (s.tk.get t).present

/-- A foam part names a tank that is present, or there is no foam part. -/
def State.foamPresent (s : State) (x : Spec) : Bool :=
  match x.foamTank with
  | none => true
  | some t => s.tankPresent (foamTankId t)

/-- R10 order 1, R155 test 1: a TANK-sourced demand has T0 present and a foam part names a present tank. -/
def State.tanksPresent (s : State) (x : Spec) : Bool :=
  (!x.fromTank || s.tankPresent .t0) && s.foamPresent x

/-- A setpoint clamped by R11. -/
def clampSetpoint (p : Params) (g : GovMode) (sp : Nat) : Nat :=
  match g with
  | .pressure => min sp p.maxPressure
  | .speed => min p.pumpMax (max p.idle sp)

/-- R11: the demand with its setpoint or flow clamped. -/
def Spec.clamp (p : Params) : Spec → Spec
  | .pumpStat g sp => .pumpStat g (clampSetpoint p g sp)
  | .pumpRoll g sp => .pumpRoll g (clampSetpoint p g sp)
  | .aux t => .aux t
  | .discharge o src flow f => .discharge o src (min flow 10000) f

/-- R11: whether a clamp changed a value. -/
def Spec.isClamped (p : Params) (x : Spec) : Bool := x.clamp p != x

/-- The stored fields of a demand, the foam part with the suspension given. -/
def Spec.demand (susp : FoamTank → FoamSusp) : Spec → Demand
  | .pumpStat g sp => .pumpStat g sp
  | .pumpRoll g sp => .pumpRoll g sp
  | .aux t => .aux t
  | .discharge o src flow f => .discharge o src flow (f.map (fun p => ⟨p.1, p.2, susp p.1⟩))

/-- The setpoint or flow as stored, which an OPEN answer carries (R10). -/
def Demand.stored : Demand → Option Nat
  | .pumpStat _ sp => some sp
  | .pumpRoll _ sp => some sp
  | .aux _ => none
  | .discharge _ _ flow _ => some flow

/-- R10 order 5: a non-FORFEIT record of the other pump kind is in the table. -/
def DT.pathConflict (t : DT) (k : Kind) : Bool :=
  match k with
  | .pumpStat => t.records.any (fun r => r.demand.kind == .pumpRoll && !r.isForfeit)
  | .pumpRoll => t.records.any (fun r => r.demand.kind == .pumpStat && !r.isForfeit)
  | _ => false

/-- R10 order 6: a non-FORFEIT DISCHARGE record names the outlet. -/
def DT.outletBusy (t : DT) (o : Option Nat) : Bool :=
  match o with
  | none => false
  | some n => t.records.any (fun r => match r.demand with
      | .discharge m _ _ _ => m == n && !r.isForfeit
      | _ => false)

/-- The numbers of the FREE slots in ascending order. -/
def DT.freeSlots (t : DT) : List Nat := (List.range 24).filter (fun i => (t.slot i).isFree && decide (i < t.slots.length))

/-- R2: what a descriptor names. -/
inductive Named where
  | badArg
  | stale (cond : Condition) (gen : Nat)
  | record (slot : Nat) (r : Rec)
  deriving DecidableEq, Repr

/-- R2: the second and third checks, for a slot number of at most 23. -/
def DT.named (t : DT) (d : Descriptor) : Named :=
  let x := t.slot d.slot
  match x.cond with
  | .free => .stale .free x.gen
  | .reserved => .stale .reserved x.gen
  | .occupied r => if x.gen = d.gen then .record d.slot r else .stale .occupied x.gen

/-- R2 with its first check; a body that does not fit is a field out of range (R175). -/
def DT.resolve (t : DT) (d : Option Descriptor) : Named :=
  match d with
  | none => .badArg
  | some x => if x.slot > 23 then .badArg else t.named x

/-- R7: the error indication: FORFEIT, or a hold reason other than LEASE. -/
def Rec.error (r : Rec) : Bool := r.isForfeit || !(r.reasons.set .lease false).isNone

/-- Whether a state set holds a record's state (R19). -/
def StateSet.has (x : StateSet) : RecState → Bool
  | .queued => x.queued
  | .engaging => x.engaging
  | .active => x.active
  | .held => x.held
  | .forfeit _ => x.forfeit

/-- Whether a state set is empty (R19). -/
def StateSet.isNone (x : StateSet) : Bool := !(x.queued || x.engaging || x.active || x.held || x.forfeit)

/-- R19: whether a record matches the station and the other filters. -/
def FindFilter.matches (f : FindFilter) (station : Nat) (r : Rec) : Bool :=
  (station == 0 || r.station == station)
    && (match f.kind with
      | none => true
      | some k => r.demand.kind == k)
    && StateSet.has f.states r.state && (!f.changedOnly || r.changed)

end Sys2Proof.Machine
end

