-- ==== Sys2Proof/Machine/Table.lean ====
section
/-! DEFINITION. What the Demand Table does on other blocks' reports (section 1.10): the service rule (R8), the hold
reasons (R23), the shift events (R22), the foam suspensions (R24), and the words it sends to the Pump Governor (R79). -/
namespace Sys2Proof.Machine

/-- R8: the service rule for a non-FORFEIT record, reading the resource as the Resource Manager has it. -/
def serviceState (m : RM) (r : Rec) : RecState :=
  if !r.reasons.isNone then .held
  else match r.demand.resource with
    | none => .active
    | some x => if m.ready x then .active else if m.engageOf x || m.returnedEngage x then .engaging else .queued

/-- The record with its state by the service rule. -/
def service (m : RM) (r : Rec) : Rec := { r with state := serviceState m r }

/-- Tells the Pump Governor when the governing list has lost its last ACTIVE record since `before` (R79). -/
def tellGovernor (before : DT) (s : State) : State :=
  if before.governingDemand.isSome && s.dt.governingDemand.isNone then govListLost s else s

/-- Stores a changed table and tells the Pump Governor. -/
def storeTable (t : DT) (s : State) : State := tellGovernor s.dt (s.setDt t)

/-- Changes every record by `f`, all of them first (section 1.10). -/
def updateRecords (f : Rec → Rec) (s : State) : State :=
  storeTable { s.dt with slots := s.dt.slots.map (Slot.mapRec f) } s

/-- R23 for one record: the reason is placed or removed and the service rule applied; a FORFEIT record gains none. -/
def Rec.withReason (m : RM) (h : HoldReason) (on : Bool) (p : Rec → Bool) (r : Rec) : Rec :=
  if r.isForfeit || !p r then r else service m { r with reasons := r.reasons.set h on }

/-- R23: places (`on`) or removes a reason on every non-FORFEIT record that satisfies `p`. -/
def setReason (h : HoldReason) (on : Bool) (p : Rec → Bool) (s : State) : State :=
  updateRecords (Rec.withReason s.rm h on p) s

/-- R23: the pump path becomes engaged or not engaged. -/
def reportPumpPath (engaged : Bool) (s : State) : State :=
  recomputeDraws (setReason .noPump (!engaged) Rec.isDischarge s)

/-- R23, R144: T0 becomes EMPTY or leaves EMPTY. -/
def reportT0Empty (empty : Bool) (s : State) : State :=
  recomputeDraws (setReason .tankEmpty empty Rec.fromTank s)

/-- R23: a roll overspeed episode starts or ends. -/
def reportOverspeed (on : Bool) (s : State) : State :=
  setReason .overspeed on (fun r => r.demand.kind == .pumpRoll) s

/-- R23: a take-off becomes cut or uncut; the AUX records naming it gain or lose SPEED_CUT. -/
def reportCut (x : Res) (on : Bool) (s : State) : State :=
  setReason .speedCut on (fun r => r.demand.kind == .aux && r.demand.resource == some x) s

/-- R23: the critical capture slot is filled or emptied. -/
def reportCritical (on : Bool) (s : State) : State := setReason .critical on Rec.isPump s

/-- R22: an ENGAGE shift of the resource has taken the slot: QUEUED becomes ENGAGING. -/
def reportShiftStart (x : Res) (s : State) : State :=
  updateRecords (fun r => if r.holds x && r.state == .queued then { r with state := .engaging } else r) s

/-- R22: an ENGAGE shift of the resource is DONE: the service rule is applied to its non-FORFEIT holders. -/
def reportShiftDone (x : Res) (s : State) : State :=
  updateRecords (fun r => if r.holds x then service s.rm r else r) s

/-- R9: a record made FORFEIT. -/
def Rec.forfeited (why : ForfeitReason) (r : Rec) : Rec :=
  { r with state := .forfeit why, reasons := .none, lease := { r.lease with running := false } }

/-- The governing list without the records that have become FORFEIT (R9, R20). -/
def DT.pruneGoverning (t : DT) : DT :=
  { t with governing := t.governing.filter (fun d => match t.lookup d with
      | some r => !r.isForfeit
      | none => false) }

/-- The number of non-FORFEIT records that hold a resource (R31). -/
def DT.holdersOf (t : DT) (x : Res) : Nat := t.records.countP (fun r => r.holds x)

/-- R22, R9: every non-FORFEIT holder of a resource becomes FORFEIT; the holder report is the caller's (R26). -/
def forfeitRecords (x : Res) (why : ForfeitReason) (s : State) : State :=
  storeTable (DT.pruneGoverning { s.dt with
    slots := s.dt.slots.map (Slot.mapRec (fun r => if r.holds x then r.forfeited why else r)) }) s

/-- The suspension rule applied to a DISCHARGE record's foam part (R145). -/
def Rec.withSuspension (susp : FoamTank → FoamSusp) (r : Rec) : Rec :=
  match r.isForfeit, r.demand with
  | false, .discharge o src flow (some f) =>
    { r with demand := .discharge o src flow (some { f with susp := susp f.tank }) }
  | _, _ => r

/-- R145, R24: evaluates the suspension rule for every non-FORFEIT record with a foam part; a change is stored and the
draw totals are recomputed. -/
def evaluateSuspensions (s : State) : State :=
  let slots := s.dt.slots.map (Slot.mapRec (Rec.withSuspension s.suspension))
  if slots = s.dt.slots then s else recomputeDraws (s.setDt { s.dt with slots := slots })

end Sys2Proof.Machine
end

