-- ==== Sys2Proof/Machine/Sequencer.lean ====
section
/-! DEFINITION. The Resource Manager's shared operations: the pump path (R30), the shift slot and its stages (R36 to R40),
the queue (R32 to R35), cancellation (R44), holder reports (R31). -/
namespace Sys2Proof.Machine

/-- R30: whether the pump path is engaged by the confirmed positions. -/
def RM.pathEngaged (m : RM) : Bool := m.split.conf == .engaged || m.ptor.conf == .engaged

/-- R30: evaluates the pump path; a change is reported to the Demand Table and published to the Tank Monitor and the
Pump Governor. -/
def checkPumpPath (s : State) : State :=
  let v := s.rm.pathEngaged
  if v = s.rm.pumpPath then s else
    let s := driveValves (reportPumpPath v (s.setRm { s.rm with pumpPath := v }))
    if v then s else govOff s

/-- R28: the confirmed position takes the confirm input's value; SPLIT's becoming ROAD clears the stuck flag (R27). -/
def takeConfirm (r : Res) (s : State) : State :=
  let p := s.input r
  if (s.res r).conf = p then s else
    let s := s.setRes r { s.res r with conf := p }
    if r = .split ∧ p = .disengaged then s.setRm { s.rm with stuck := false } else s

/-- R45: the drift condition of a resource. -/
def State.driftCondition (s : State) (r : Res) : Bool :=
  !s.rm.shiftOf r && (s.res r).conf != Pos.ofBool (s.res r).cmd
    && (r != .split || ((s.res r).conf != .unknown && !s.rm.stuck))

/-- R45: where the drift condition of a resource is false its drift timer stops and its watch is armed again, from orphan marking on.
It is taken at each change of a position or a command with no shift in flight, so that a condition which turns false and true again
within one event begins a new episode. -/
def driftLapses (r : Res) (s : State) : State :=
  if s.ps.validated && !s.driftCondition r then s.setRes r { s.res r with driftTimer := none, driftArmed := true } else s

/-- R37: the preconditions of an operation. -/
def State.preconditions (s : State) (r : Res) (op : ShiftOp) : Bool :=
  let slow := decide (s.pcu.eng.published ≤ s.par.engageLimit)
  let neutral := s.mc.accepted.neutral
  let park := s.mc.accepted.park
  let still := s.mc.still
  match r, op with
  | .split, .engage => slow && neutral && park && still && s.rm.ptor.conf == .disengaged && !s.rm.ptor.cmd
  | .split, .disengage => slow && neutral && still
  | .ptor, .engage => slow && neutral && park && still && s.rm.split.conf == .disengaged && !s.rm.split.cmd
  | .ptoa, .engage => slow && neutral && still
  | .ptob, .engage => slow && neutral && still
  | _, .disengage => true

/-- R39: a shift in ACTUATE whose confirm input shows the new position enters SETTLE. -/
def trySettle (s : State) : State :=
  match s.rm.shift with
  | some sh =>
    if sh.stage = .actuate ∧ s.input sh.res = sh.op.target then
      s.setRm { s.rm with shift := some { sh with stage := .settle, timer := s.par.settleTime } }
    else s
  | none => s

/-- R38, R39: a shift in PREPARE whose preconditions hold enters ACTUATE: its output is driven and the confirm one-shot
starts. -/
def tryActuate (s : State) : State :=
  match s.rm.shift with
  | some sh =>
    if sh.stage = .prepare ∧ s.preconditions sh.res sh.op = true then
      let s := s.setRes sh.res { s.res sh.res with cmd := sh.op == .engage }
      trySettle (s.setRm { s.rm with shift := some { sh with stage := .actuate, timer := s.par.confirmTime } })
    else s
  | none => s

/-- R62: a SPLIT shift that takes the slot ends the condition of the split position watch, whatever the shift does later in the same
event: its timer stops and its reported flag is cleared. -/
def splitTakesSlot (r : Res) (s : State) : State :=
  if r = .split then s.setMc { s.mc with splitTimer := none, splitReported := false } else s

/-- R36: the head entry takes the free shift slot where nothing forbids it, enters PREPARE, and passes on where its
preconditions hold. A SPLIT shift clears the stuck flag (R27) and ends the split position watch's condition (R62); the drift
watch of the resource is re-armed (R45). -/
def startHead (s : State) : State :=
  match s.rm.shift, s.rm.queue with
  | none, e :: rest =>
    if s.fc.lockdown || s.rm.closed then s else
      let s := s.setRm { s.rm with
        queue := rest,
        shift := some ⟨e.res, e.op, .prepare, s.par.prepTimeout * 1000⟩,
        stuck := s.rm.stuck && e.res != .split }
      let s := splitTakesSlot e.res (s.setRes e.res { s.res e.res with driftTimer := none, driftArmed := true })
      tryActuate (if e.op = .engage then reportShiftStart e.res s else s)
  | _, _ => s

/-- R32: an entry is appended at the back, and takes the slot at once where R36 allows. Nothing is appended in
lockdown. -/
def appendEntry (r : Res) (op : ShiftOp) (s : State) : State :=
  if s.fc.lockdown then s
  else startHead (s.setRm { s.rm with queue := s.rm.queue ++ [⟨r, op, false⟩] })

/-- A resource's entry is withdrawn from the queue (R33, R34). -/
def withdraw (r : Res) (s : State) : State :=
  s.setRm { s.rm with queue := s.rm.queue.filter (fun e => e.res != r) }

/-- R28: the shift leaves the slot and the confirmed position takes the confirm input's value. -/
def leaveSlot (r : Res) (s : State) : State := takeConfirm r (s.setRm { s.rm with shift := none })

/-- R35: re-evaluates the resource of a shift that has left the slot. -/
def reevaluate (r : Res) (s : State) : State :=
  if s.fc.lockdown || (s.rm.entry r).isSome then s
  else if s.wanted r && !(s.res r).cmd then appendEntry r .engage s
  else if !s.wanted r && (s.res r).cmd then appendEntry r .disengage s
  else s

/-- R44: the shift in PREPARE of a resource is cancelled. -/
def cancelShift (r : Res) (s : State) : State := startHead (reevaluate r (checkPumpPath (leaveSlot r s)))

/-- R33: a resource has become wanted. -/
def becameWanted (r : Res) (s : State) : State :=
  match s.rm.entry r with
  | some e => if e.op = .disengage then withdraw r s else s
  | none =>
    match s.rm.shift with
    | some sh =>
      if sh.res = r then (if sh.op = .disengage ∧ sh.stage = .prepare then cancelShift r s else s)
      else if (s.res r).cmd then s else appendEntry r .engage s
    | none => if (s.res r).cmd then s else appendEntry r .engage s

/-- R34: a resource has stopped being wanted, for a cause other than lockdown. -/
def stoppedWanted (r : Res) (s : State) : State :=
  match s.rm.entry r with
  | some e => if e.op = .engage then withdraw r s else s
  | none =>
    match s.rm.shift with
    | some sh =>
      if sh.res = r then (if sh.op = .engage ∧ sh.stage = .prepare then cancelShift r s else s)
      else if (s.res r).cmd then appendEntry r .disengage s else s
    | none => if (s.res r).cmd then appendEntry r .disengage s else s

/-- R31, R33: `n` holders more. An orphan that is wanted while engaged with nothing queued or in flight is adopted
(R50). In lockdown the count alone changes. -/
def holdersMore (r : Res) (n : Nat) (s : State) : State :=
  let before := s.wanted r
  let s := s.setRes r { s.res r with holders := (s.res r).holders + n }
  if s.fc.lockdown then s else
    let s := if !before && s.wanted r then becameWanted r s else s
    if s.wanted r && (s.res r).orphan && (s.res r).cmd then s.setRes r { s.res r with orphan := false } else s

/-- R31, R34: `n` holders fewer. In lockdown the count alone changes. -/
def holdersFewer (r : Res) (n : Nat) (s : State) : State :=
  let before := s.wanted r
  let s := s.setRes r { s.res r with holders := (s.res r).holders - n }
  if s.fc.lockdown then s
  else if before && !s.wanted r then stoppedWanted r s else s

/-- R22, R26: the non-FORFEIT holders of a resource are made FORFEIT and reported gone together. -/
def forfeitHolders (r : Res) (why : ForfeitReason) (s : State) : State :=
  let n := s.dt.holdersOf r
  holdersFewer r n (forfeitRecords r why s)

end Sys2Proof.Machine
end

