-- ==== Sys2Proof/Machine/Capture.lean ====
section
/-! DEFINITION. The mode and its lockout outputs (R66, R67, R69, R71, R77), the end of a preset apply (R157), fault
capture (R163 to R166) and the entry into lockdown (R167). -/
namespace Sys2Proof.Machine

/-! ## Mode -/

/-- R66: the mode from the lockdown flag, the split position, the shift in flight and the confirmed positions. -/
def State.modeOf (s : State) : Mode :=
  let splitShift := s.rm.shiftOf .split
  let engageShift := match s.rm.shift with
    | some sh => sh.op == .engage
    | none => false
  if s.fc.lockdown then .lockdown
  else if s.mc.splitPos == .unknown && !splitShift then .indeterminate
  else if splitShift || engageShift then .shifting
  else if s.rm.split.conf == .engaged then .pump
  else if s.rm.ptor.conf == .engaged && s.rm.split.conf == .disengaged then .roll
  else .road

/-- R69: PARKHOLD in each mode. -/
def parkholdOf : Mode → Bool
  | .road => false
  | .roll => false
  | _ => true

/-- R69: RANGE in each mode. -/
def rangeOf : Mode → Range
  | .road => .free
  | .pump => .pumpOnly
  | .roll => .lowOnly
  | _ => .neutralOnly

/-- R69: the levels of the two RANGE lines, the first and the second. -/
def rangeLines : Range → Bool × Bool
  | .free => (false, false)
  | .neutralOnly => (true, false)
  | .pumpOnly => (false, true)
  | .lowOnly => (true, true)

/-- R129: the levels of the two THRMODE lines, the first and the second. -/
def thrModeLines : Authority → Bool × Bool
  | .off => (false, false)
  | .full => (true, false)
  | .floor => (false, true)

/-- R67 steps 1 to 4: a change of mode drives PARKHOLD and RANGE, sets MODE_CHANGED and is published to the Pump
Governor, which enters OFF when the new mode allows it no throttle (R121). -/
def setMode (m : Mode) (s : State) : State :=
  if m = s.mc.mode then s else
    let s := raiseAtt .modeChanged (s.setMc { s.mc with mode := m, parkhold := parkholdOf m, range := rangeOf m })
    if s.allowed = .off then govOff s else s

/-- R67: the mode is derived. -/
def deriveMode (s : State) : State :=
  let s := s.setMc { s.mc with derived := true }
  setMode s.modeOf s

/-- R71: whether stationary pumping holds. -/
def State.stationary (s : State) : Bool :=
  s.mc.mode == .pump
    || (s.mc.mode == .shifting && s.rm.split.conf == .engaged && !s.rm.shiftOf .split)

/-- R77: whether roll pumping holds. -/
def State.rolling (s : State) : Bool :=
  s.mc.mode == .roll
    || (s.mc.mode == .shifting && s.rm.ptor.conf == .engaged && s.rm.split.conf == .disengaged
      && !s.rm.shiftOf .split)

/-- R71, R84: stationary pumping is re-evaluated, its end clearing both episode flags (R72, R73); the end of roll pumping
stops the grace timer. -/
def evaluateScopes (s : State) : State :=
  let sp := s.stationary
  s.setMc { s.mc with
    sp := sp, motionEp := s.mc.motionEp && sp, parkEp := s.mc.parkEp && sp,
    graceTimer := if s.rolling then s.mc.graceTimer else none }

/-! ## End of an apply -/

/-- The slots with these RESERVED ones released: FREE, generation advanced (R1). -/
def releaseSlots (slots : List Slot) : List Nat → List Slot
  | [] => slots
  | i :: rest =>
    let x := slots.getD i Slot.reset
    releaseSlots (if x.cond = .reserved then slots.set i x.emptied else slots) rest

/-- R157: an apply in flight is abandoned. -/
def abandonApply (why : AbandonReason) (index : Option Nat) (s : State) : State :=
  match s.pe.apply with
  | none => s
  | some a =>
    let s := s.setDt { s.dt with slots := releaseSlots s.dt.slots a.slots }
    raiseAtt .presetDone (s.setPe { s.pe with
      apply := none, result := .abandoned a.preset a.station a.count why index })

/-! ## Capture -/

/-- R163: the snapshot a capture takes. -/
def State.snapshot (s : State) (c : Cause) (r : Option Res) : Capture where
  cause := c
  res := r
  desc := s.pg.governing
  mode := s.mc.mode
  engine := s.pcu.eng.published
  road := s.pcu.road.published
  discharge := if s.pi.pdis.state = .noData then none else s.pi.pdis.published

/-- The also set with a cause, which it holds once (R161). The causes are kept, and sent by READ_FAULT (R172), in the order in which
they joined, of which the rules say nothing (log 48, DESIGN CHOICE). -/
def joinAlso (c : Cause) (l : List Cause) : List Cause := if l.contains c then l else l ++ [c]

/-- R164: a standard fault report. -/
def standardFault (c : Cause) (r : Option Res) (s : State) : State :=
  match s.fc.standard with
  | none => raiseAtt .standard (s.setFc { s.fc with standard := some (s.snapshot c r) })
  | some _ => s.setFc { s.fc with also := joinAlso c s.fc.also }

/-- R165 steps 2 to 4: the critical response once the critical slot is filled. -/
def criticalResponse (s : State) : State := raiseAtt .critical (reportCritical true (govOff s))

/-- R165 step 1: the critical slot is filled, then the response. -/
def fillCritical (c : Cause) (r : Option Res) (s : State) : State :=
  criticalResponse (s.setFc { s.fc with critical := some (s.snapshot c r) })

/-! ## Lockdown -/

/-- R25: every record becomes FORFEIT with reason LOCKDOWN and the governing list is emptied; then the holders and the
DISCHARGE changes are reported. -/
def tableLockdown (s : State) : State :=
  let before := s.dt
  let s := storeTable { slots := s.dt.slots.map (Slot.mapRec (Rec.forfeited .lockdown)), governing := [] } s
  recomputeDraws (allRes.foldl (fun s r => holdersFewer r (before.holdersOf r) s) s)

/-- The command of a take-off in lockdown (R54): PTOR released, PTOA and PTOB by their lockdown behaviour. -/
def lockdownCmd (p : Params) (r : Res) (cmd : Bool) : Bool :=
  match r with
  | .split => cmd
  | .ptor => false
  | .ptoa => cmd && p.retainA
  | .ptob => cmd && p.retainB

/-- A resource record in lockdown: its lockdown command, no orphan flag (R54). -/
def ResRec.lockdown (p : Params) (r : Res) (x : ResRec) : ResRec :=
  { x with cmd := lockdownCmd p r x.cmd, orphan := false }

/-- R54: the queue is emptied, a shift in flight stops where it stands, the outputs take their lockdown positions, the
orphan flags and the adoption window go. The drift conditions are looked at under the new commands (R45). -/
def resourcesLockdown (s : State) : State :=
  let s := s.setRm { s.rm with queue := [] }
  let s := match s.rm.shift with
    | some sh => checkPumpPath (leaveSlot sh.res s)
    | none => s
  let s := s.setRm { s.rm with
    split := s.rm.split.lockdown s.par .split, ptor := s.rm.ptor.lockdown s.par .ptor,
    ptoa := s.rm.ptoa.lockdown s.par .ptoa, ptob := s.rm.ptob.lockdown s.par .ptob,
    adoption := none }
  allRes.foldl (fun s r => driftLapses r s) s

/-- R167: entry into lockdown: the flag and the lockdown capture, then the blocks in order. The mode counts as derived from
then on (log 34). -/
def enterLockdown (c : Cause) (r : Option Res) (s : State) : State :=
  let s := s.setFc { s.fc with lockdown := true, lockdownCap := some (s.snapshot c r) }
  let s := govOff s
  let s := abandonApply .lockdown none s
  let s := tableLockdown s
  let s := resourcesLockdown s
  let s := driveValves s
  let s := evaluateScopes (deriveMode s)
  raiseAtt .lockdown s

/-- R165, R166: a critical fault report. One taken in lockdown changes nothing. -/
def criticalFault (c : Cause) (r : Option Res) (s : State) : State :=
  if s.fc.lockdown then s
  else if s.fc.critical.isSome then enterLockdown c r s
  else fillCritical c r s

end Sys2Proof.Machine
end

