-- ==== Sys2Proof/Machine/Follow.lean ====
section
/-! DEFINITION. What follows the Resource Manager's work in an event: the completion of RESYNC (R184), the foam suspensions
(R145), the derivation of the mode (R67) with the pumping watches (R71 to R73), the position watches (R45, R62), and the
changed flags at the event's end (R21). The order is log 11's. -/
namespace Sys2Proof.Machine

/-! ## Watches -/

/-- R72: an evaluation of the motion watch. Log 49 says at which moments it is made. -/
def motionWatch (s : State) : State :=
  if !s.mc.sp then s
  else if s.par.motionTolerance < s.pcu.roadSum then
    (if s.mc.motionEp then s else criticalFault .wheelMotion none (s.setMc { s.mc with motionEp := true }))
  else s.setMc { s.mc with motionEp := false }

/-- R73: an evaluation of the park watch. -/
def parkWatch (s : State) : State :=
  if s.mc.sp && !s.mc.accepted.park then
    (if s.mc.parkEp then s else criticalFault .parkReleased none (s.setMc { s.mc with parkEp := true }))
  else s.setMc { s.mc with parkEp := false }

/-- R71: stationary pumping is evaluated; where it begins, the motion watch evaluates at once, and then the park watch
(log 13). DESIGN CHOICE (log 49): where it goes on, the motion watch is not evaluated here. R60 step 3 and R67 step 5 have the
stationary pumping watches evaluated at each input change and change of the mode; R72 lists the publications and the start of
stationary pumping, and the model follows R72. The readings differ only where the motion tolerance has changed during
stationary pumping. The park watch is evaluated every time (R73). -/
def evaluatePumping (s : State) : State :=
  let began := s.stationary && !s.mc.sp
  let s := evaluateScopes s
  parkWatch (if began then motionWatch s else s)

/-- R67 step 5, R84: the roll overspeed watch at a change of the mode from `old`, on the road speed as last published: with no
episode open it starts or stops the grace timer (log 31). An open episode ends at a publication alone (R86). -/
def graceAtMode (old : Mode) (s : State) : State :=
  if s.mc.mode = old || s.mc.overEp then s
  else if s.par.rollLimit < s.pcu.road.published then
    (if s.rolling && s.mc.graceTimer.isNone then s.setMc { s.mc with graceTimer := some s.par.overspeedGrace } else s)
  else s.setMc { s.mc with graceTimer := none }

/-- R67: a derivation of the mode with its five steps, the watches evaluated for the new mode. -/
def deriveAndWatch (s : State) : State := graceAtMode s.mc.mode (evaluatePumping (deriveMode s))

/-- R62: the condition of the split position watch. -/
def State.splitCondition (s : State) : Bool :=
  s.mc.splitPos == .unknown && !s.rm.shiftOf .split && !s.rm.stuck

/-- R62: the split position watch, from the first derivation of the mode on. -/
def splitWatch (s : State) : State :=
  if !s.mc.derived then s
  else if s.splitCondition then
    (if s.mc.splitTimer.isNone && !s.mc.splitReported then s.setMc { s.mc with splitTimer := some 500 } else s)
  else s.setMc { s.mc with splitTimer := none, splitReported := false }

/-- R45: the position drift watch of a resource, from orphan marking on: where its condition holds an armed watch starts a stopped
timer with the confirm time, and where it does not the timer stops and the watch is armed. -/
def driftWatch (r : Res) (s : State) : State :=
  if s.ps.validated && s.driftCondition r && (s.res r).driftTimer.isNone && (s.res r).driftArmed then
    s.setRes r { s.res r with driftTimer := some s.par.confirmTime }
  else driftLapses r s

/-- The split position watch and the four drift watches. -/
def positionWatches (s : State) : State :=
  allRes.foldl (fun s r => driftWatch r s) (splitWatch s)

/-! ## RESYNC -/

/-- The flags the completion of RESYNC clears: all but LOCKDOWN and CRITICAL (R184 step 2). -/
def resyncClears : AttSet := { allAtt with lockdown := false, critical := false }

/-- A transaction in progress when RESYNC completes is taken as aborted (R184 step 4). -/
def Txn.abort : Txn → Txn
  | .active => .aborted
  | t => t

/-- R184: RESYNC completes. `base` is the table the event's changes are measured from (log 12). -/
def completeResync (base : List Slot) (s : State) : State :=
  let s := markChanged base s
  let s := s.setFc { s.fc with standard := none, also := [] }
  let s := markAll (clearAtt resyncClears s)
  let s := s.setCp { s.cp with txn := s.cp.txn.abort, resync := false }
  let s := raiseAtt .resyncDone s
  startHead (s.setRm { s.rm with closed := false })

/-- R183: RESYNC completes at the moment no shift is in flight. -/
def settleResync (base : List Slot) (s : State) : State :=
  if s.cp.resync && s.rm.shift.isNone then completeResync base s else s

/-! ## The end of the Resource Manager's work and of the event -/

/-- What follows the Resource Manager's work: RESYNC's completion, the foam suspensions when PTOA's confirmed position
has changed since `s0`, the derivation of the mode and the pumping watches. -/
def followUp (s0 : State) (base : List Slot) (s : State) : State :=
  let s := settleResync base s
  let s := if (s.res .ptoa).conf = (s0.res .ptoa).conf then s else evaluateSuspensions s
  if s.mc.derived then deriveAndWatch s else s

/-- The end of an event that began in `s0`: what follows, the position watches, RESYNC's completion where lockdown has
stopped the shift (R185), and the changed flags measured from `base`. -/
def endEvent (s0 : State) (base : List Slot) (s : State) : State :=
  markChanged base (settleResync base (positionWatches (followUp s0 base s)))

/-- The end of an event whose own change of records is not exempt. -/
def finish (s0 s : State) : State := endEvent s0 s0.dt.slots s

end Sys2Proof.Machine
end

