-- ==== Sys2Proof/Machine/Counting.lean ====
section
/-! DEFINITION. The Pulse Counting Unit: pulses (R94, R97), the speed window with the publication and what its readers do
(R95 to R98, R47, R52, R72, R84, R86), the slip timers (R47), and the level decoder (R101 to R107). -/
namespace Sys2Proof.Machine

/-! ## Pulses (R94, R97, R63) -/

/-- R94: a pulse adds 1 to the window count, unless the count is already 4000. -/
def SpeedChan.pulse (c : SpeedChan) : SpeedChan := { c with window := min 4000 (c.window + 1) }

/-- R94, R97, R63: a pulse on a speed input. ENGSPD clears the engine-stopped flag and restarts the stop timer; ROADSPD
restarts the stillness timer and ends stillness, which makes no precondition of R37 hold. The expiry of a timer that had just run
out does not happen then (log 2). Nothing is counted while a reset lasts (R98, R99, log 32). -/
def pulseArrives (ch : SpeedId) (s : State) : State :=
  if s.sys.resetActive then s
  else match ch with
    | .eng => s.setPcu { s.pcu with
      eng := s.pcu.eng.pulse, engineStopped := false, stopTimer := some 1000,
      stopOvertaken := s.pcu.stopOvertaken || Timer.due s.pcu.stopTimer }
    | .pump => s.setPcu { s.pcu with pump := s.pcu.pump.pulse }
    | .road =>
      (s.setPcu { s.pcu with road := s.pcu.road.pulse }).setMc
        { s.mc with
          still := false, stillTimer := some s.par.stillnessTime,
          stillOvertaken := s.mc.stillOvertaken || Timer.due s.mc.stillTimer }

/-- PULSE_ARRIVAL (R94). -/
def execPulseArrival (channel : SpeedId) (s : State) : Host.Outcome State Fault Refusal :=
  .next (pulseArrives channel s)

/-- R97: the engine stop timer expires; not where a pulse taken first has restarted it (log 2). -/
def engineStops (s : State) : State :=
  if s.pcu.stopOvertaken then s.setPcu { s.pcu with stopOvertaken := false }
  else if s.pcu.stopTimer.isNone then s else s.setPcu { s.pcu with engineStopped := true, stopTimer := none }

/-- ENGINE_STOP_EXPIRY (R97). -/
def execEngineStopExpiry (s : State) : Host.Outcome State Fault Refusal := .next (engineStops s)

/-! ## The window (R95, R96) -/

/-- R95: the window count enters a ring of this size and a new window begins. -/
def SpeedChan.enter (size : Nat) (c : SpeedChan) : SpeedChan :=
  { c with ring := (c.window :: c.ring).take size, window := 0 }

/-- R96: engine or pump speed in rpm from a ring sum. -/
def rpmOf (pulses sum : Nat) : Nat := min 6000 (sum * 150 / pulses)

/-- R96: road speed in 0.1 km/h from a ring sum. -/
def roadSpeedOf (k sum : Nat) : Nat := min 1500 (sum * 45000 / k)

/-- R95, R96: the rings and the published values after a window expiry. -/
def PCU.window (p : Params) (still : Bool) (u : PCU) : PCU :=
  let e := u.eng.enter 4
  let q := u.pump.enter 4
  let d := u.road.enter 8
  { u with
    eng := { e with published := if u.engineStopped then 0 else rpmOf p.enginePulses e.ring.sum },
    pump := { q with published := rpmOf p.pumpPulses q.ring.sum },
    road := { d with published := if still then 0 else roadSpeedOf p.roadPulses d.ring.sum },
    windowTimer := some 100 }

/-! ## What the Resource Manager does with a publication -/

/-- Whether the profile marks a take-off road-permitted (R29); SPLIT and PTOR are never cut. -/
def roadPermitted (p : Params) : Res → Bool
  | .ptoa => p.roadPermittedA
  | .ptob => p.roadPermittedB
  | _ => true

/-- R52: the road cut-out test of a take-off. -/
def cutOut (r : Res) (s : State) : State :=
  if roadPermitted s.par r = false ∧ s.par.cutoutSpeed < s.pcu.road.published ∧ (s.res r).cut = false then
    let wasWanted := s.wanted r
    let orphan := (s.res r).orphan
    let s := s.setRes r { s.res r with cut := true, orphan := false }
    let s := if orphan then appendEntry r .disengage s else if wasWanted then stoppedWanted r s else s
    reportCut r true s
  else s

/-- R47: the expected pump speed. -/
def expectedSpeed (p : Params) (engine : Nat) : Nat := engine * p.ratioNum / p.ratioDen

/-- R47: whether slip is present. -/
def State.slipping (s : State) : Bool :=
  let e := expectedSpeed s.par s.pcu.eng.published
  let m := s.pcu.pump.published
  s.mc.mode == .pump && s.mc.accepted.pumprange && decide (s.par.idle + 200 ≤ s.pcu.eng.published)
    && decide (e * s.par.slipTolerance / 100 < max (e - m) (m - e))

/-- R47: an evaluation of the slip watch; it does not run while the profile is invalid. -/
def slipWatch (s : State) : State :=
  if !s.profileValid then s
  else if s.slipping then
    s.setRm { s.rm with slipTimer := some (s.rm.slipTimer.getD 2000), rearmTimer := none }
  else
    s.setRm { s.rm with
      slipTimer := none,
      rearmTimer := if s.rm.slipArmed then s.rm.rearmTimer else some (s.rm.rearmTimer.getD 2000) }

/-- R98: the Resource Manager's part of a publication. Where one publication cuts both take-offs, PTOA is cut before PTOB
(log 40, DESIGN CHOICE: R52 and R98 give no order). -/
def resourcesTakeSpeeds (s : State) : State := slipWatch (tryActuate (cutOut .ptob (cutOut .ptoa s)))

/-! ## What the Mode Controller does with a publication -/

/-- R86: a roll overspeed episode ends. -/
def overspeedEnds (s : State) : State :=
  govOverspeedEnd (reportOverspeed false (s.setMc { s.mc with overEp := false }))

/-- R84, R86: an evaluation of the roll overspeed watch at a publication. It is made in LOCKDOWN too (log 42, DEDUCED): R68 says that
the watch does not run there, while R84 and R87 have a publication update the last evaluated road speed and end an open episode.
No grace timer starts in LOCKDOWN, where roll pumping does not hold. -/
def overspeedWatch (s : State) : State :=
  let v := s.pcu.road.published
  let s := s.setMc { s.mc with overSpeed := v }
  if s.mc.overEp then (if v + s.par.overspeedBand ≤ s.par.rollLimit then overspeedEnds s else s)
  else if s.par.rollLimit < v then
    (if s.rolling && s.mc.graceTimer.isNone then s.setMc { s.mc with graceTimer := some s.par.overspeedGrace } else s)
  else s.setMc { s.mc with graceTimer := none }

/-- R95, R98: the window timer expires: the speeds are computed, the Resource Manager completes its work, and then the
Mode Controller evaluates its watches (the motion watch at every publication, R72, log 49). -/
def windowExpires (s : State) : State :=
  if s.pcu.windowTimer.isNone then s
  else
    let t := resourcesTakeSpeeds (s.setPcu (s.pcu.window s.par s.mc.still))
    finish s (overspeedWatch (motionWatch (followUp s s.dt.slots t)))

/-- SPEED_WINDOW (R95). -/
def execSpeedWindow (s : State) : Host.Outcome State Fault Refusal := .next (windowExpires s)

/-! ## Slip timers (R47) -/

/-- R47: the slip timer expires: an armed watch reports and is disarmed (log 25). -/
def slipExpires (s : State) : State :=
  if s.rm.slipTimer.isNone then s
  else if s.rm.slipArmed && s.profileValid then
    standardFault .pumpSlip (some .split) (s.setRm { s.rm with slipTimer := none, slipArmed := false })
  else s.setRm { s.rm with slipTimer := none }

/-- SLIP_EXPIRY (R47). -/
def execSlipExpiry (s : State) : Host.Outcome State Fault Refusal := .next (slipExpires s)

/-- R47: the re-arm timer expires: the watch is armed, under a profile that is not VALID too (log 47, DESIGN CHOICE). -/
def rearmExpires (s : State) : State :=
  if s.rm.rearmTimer.isNone then s else s.setRm { s.rm with rearmTimer := none, slipArmed := true }

/-- REARM_EXPIRY (R47). -/
def execRearmExpiry (s : State) : Host.Outcome State Fault Refusal := .next (rearmExpires s)

/-! ## The level decoder (R101 to R107) -/

/-- R101: what one sample of A and B gives beside the sample before. -/
inductive EdgeKind where
  | none | up | down | illegal
  deriving DecidableEq, Repr

/-- R101: the outcome of a sample; the direction table read as "A differs from B" after an edge of A, "A equals B" after
an edge of B. -/
def edgeOf (old : Phase) (a b : Bool) : EdgeKind :=
  if a = old.a then (if b = old.b then .none else if a = b then .up else .down)
  else if b = old.b then (if a = b then .down else .up)
  else .illegal

/-- R102: whether a legal edge is counted. -/
def counts (m : XMode) (old : Phase) (a : Bool) : Bool :=
  match m with
  | .x1 => a && !old.a
  | .x2 => a != old.a
  | .x4 => true

/-- R108: a configured channel enters FAULT; a new episode is reported, or held pending while VMAIN is off or a reset
lasts (log 15). -/
def levelFault (i : TankId) (s : State) : State :=
  let c := s.pcu.level i
  if c.state = .fault then s
  else if s.sys.vmain && !s.sys.resetActive then
    standardFault .levelSensor none (s.setPcu (s.pcu.setLevel i { c with state := .fault }))
  else s.setPcu (s.pcu.setLevel i { c with state := .fault, faultPending := true })

/-- R102, R103: a counted edge; a count that stands at a limit after it puts the channel into FAULT. It does so too where the edge
follows a mark of the same sample (log 43, DESIGN CHOICE: R107 says the channel is REFERENCED then, R103 that it enters
FAULT). -/
def countEdge (i : TankId) (up : Bool) (s : State) : State :=
  let c := s.pcu.level i
  let n := if up then min 65535 (c.count + 1) else c.count - 1
  let s := s.setPcu (s.pcu.setLevel i { c with count := n, dir := if up then .up else .down })
  if n = 0 ∨ n = 65535 then levelFault i s else s

/-- R101 to R104: what a configured channel does with the levels of A and B. -/
def levelEdge (i : TankId) (old : Phase) (a b : Bool) (s : State) : State :=
  match edgeOf old a b with
  | .none => s
  | .illegal => levelFault i s
  | .up => if counts (s.pcu.level i).xmode old a then countEdge i true s else s
  | .down => if counts (s.pcu.level i).xmode old a then countEdge i false s else s

/-- R105 steps 1, 2, 4, 5 and 6: the channel after a reference mark, with the drift flag as given. -/
def LevelChan.marked (c : LevelChan) (drift : Bool) : LevelChan :=
  { c with
    priorCap := c.indexCap, indexCap := c.count, count := c.refCount, state := .referenced,
    rerefPending := true, driftFlag := drift }

/-- R106: whether the drift check of a mark finds a drift. -/
def LevelChan.drifts (c : LevelChan) : Bool :=
  c.state == .referenced && decide (c.driftLimit < max (c.count - c.refCount) (c.refCount - c.count))

/-- R105, R106: a reference mark on a configured channel; a drift is reported, or held in the drift flag while VMAIN is off
or a reset lasts (log 15). -/
def levelMark (i : TankId) (s : State) : State :=
  let c := s.pcu.level i
  if c.drifts then
    (if s.sys.vmain && !s.sys.resetActive then
      standardFault .levelDrift none (s.setPcu (s.pcu.setLevel i (c.marked false)))
    else s.setPcu (s.pcu.setLevel i (c.marked true)))
  else s.setPcu (s.pcu.setLevel i (c.marked c.driftFlag))

/-- R101, R107: one decoder sample of a channel. The first sample after a cold reset only takes the levels (R110), and no
sample is taken while a cold reset lasts (log 17). -/
def levelSampled (i : TankId) (a b z markFirst : Bool) (s : State) : State :=
  if s.sys.resetActive && s.cp.resetKind == .cold then s
  else
    let c := s.pcu.level i
    let t := s.setPcu (s.pcu.setLevel i { c with phase := some ⟨a, b, z⟩ })
    match c.phase with
    | none => t
    | some old =>
      if !c.configured then t
      else if z && !old.z then
        (if markFirst then levelEdge i old a b (levelMark i t) else levelMark i (levelEdge i old a b t))
      else levelEdge i old a b t

/-- LEVEL_SAMPLE (R101). -/
def execLevelSample (channel : TankId) (a b z markFirst : Bool) (s : State) : Host.Outcome State Fault Refusal :=
  .next (levelSampled channel a b z markFirst s)

end Sys2Proof.Machine
end

