-- ==== Sys2Proof/Machine/Governor.lean ====
section
/-! DEFINITION. The Pump Governor's update (R120 to R127), its outputs (R128, R129), and what it does with new parameter
values (R118, R130). -/
namespace Sys2Proof.Machine

/-! ## Ceiling terms -/

/-- Whether an ACTIVE DISCHARGE record has source INTAKE. -/
def DT.activeIntake (t : DT) : Bool := t.records.any (fun r => r.state == .active && r.fromIntake)

/-- Whether an ACTIVE DISCHARGE record has source TANK. -/
def DT.activeTank (t : DT) : Bool := t.records.any (fun r => r.state == .active && r.fromTank)

/-- Whether a DISCHARGE record is ACTIVE. -/
def DT.activeDischarge (t : DT) : Bool := t.records.any (fun r => r.state == .active && r.isDischarge)

/-- R124: the case of C_supply. -/
def State.supplyCaseOf (s : State) : Nat :=
  let t0 := s.tk.t0.state
  if t0 == .vol .empty && s.dt.records.any (fun r => r.isDischarge && r.reasons.tankEmpty) && !s.dt.activeIntake then 1
  else if s.dt.activeTank && !s.dt.activeIntake && (t0 == .vol .reserve || t0 == .unreferenced || t0 == .sensorFault)
  then 2
  else if !s.dt.activeDischarge then 3
  else 4

/-- R124: the value of C_supply in a case. -/
def supplyTerm (p : Params) (c : Nat) : Int :=
  if c = 1 then p.idle else if c = 2 then p.reserveCeiling else if c = 3 then p.noFlowCeiling else p.pumpMax

/-- R123: C_path. -/
def pathTerm (p : Params) (m : Mode) : Int := if m = .roll then p.rollFloorMax else p.pumpMax

/-- R122: C_cav revised from the intake pressure. -/
def cavTerm (p : Params) (pint : PressChan) (cCav demand : Int) : Int :=
  if pint.state = .valid then
    match pint.published with
    | some v =>
      if v < p.intakeFloor then max (p.idle : Int) (min cCav demand - p.retreat)
      else if p.intakeFloor + p.recoveryBand ≤ v then min (p.pumpMax : Int) (cCav + p.recovery)
      else cCav
    | none => cCav
  else cCav

/-- The governor with C_path and C_supply of this update (R123, R124). -/
def State.withTerms (s : State) (g : PG) : PG :=
  let c := s.supplyCaseOf
  { g with cPath := pathTerm s.par s.mc.mode, supplyCase := c, cSupply := supplyTerm s.par c }

/-- Stage 2: the ceiling stored (R123). -/
def PG.withCeiling (p : Params) (g : PG) : PG := { g with ceiling := ceilingOf p g }

/-! ## Step -/

/-- R120: the state of an update outside OFF, from the governing demand. -/
def decidedState (pdis : PressChan) : Option (Descriptor × Rec) → GovState
  | none => .idleHold
  | some (_, r) =>
    match r.demand with
    | .pumpStat .speed _ => .speed
    | .pumpRoll .speed _ => .speed
    | _ => if pdis.state = .valid then .pressure else .frozen

/-- The setpoint of a governing demand. -/
def setpointOf (r : Rec) : Int :=
  match r.demand with
  | .pumpStat _ sp => sp
  | .pumpRoll _ sp => sp
  | _ => 0

/-- R125: the step of stage 3. -/
def stepOf (p : Params) (st : GovState) (gd : Option (Descriptor × Rec)) (discharge demand : Int) : Int :=
  let sp := match gd with
    | some (_, r) => setpointOf r
    | none => 0
  match st with
  | .pressure => clampInt (((sp - discharge) * p.gain).tdiv 64) (-p.maxStep) p.maxStep
  | .speed => clampInt (sp - demand) (-p.maxStep) p.maxStep
  | .idleHold => clampInt (p.idle - demand) (-p.maxStep) p.maxStep
  | _ => 0

/-- R126: whether the relief test finds the discharge above the limit. -/
def relieves (p : Params) (pdis : PressChan) : Bool :=
  match pdis.state, pdis.published with
  | .valid, some v => decide ((p.reliefLimit : Int) < v)
  | _, _ => false

/-! ## The update (R120) -/

/-- R120: an update whose decided state is OFF: the entry where it was not OFF, stage 2, the demand at idle. -/
def offUpdate (s : State) : State :=
  let s := govOff s
  let g := (s.withTerms s.pg).withCeiling s.par
  s.setPg { g with demand := s.par.idle, relief := false, thrDuty := 0, thrMode := .off }

/-- R120: the seed of a demand that leaves OFF: the published engine speed within idle and the ceiling before stage 1. -/
def seedDemand (s : State) (g : PG) : Int :=
  if s.pg.state = .off then clampInt s.pcu.eng.published s.par.idle (ceilingOf s.par g) else g.demand

/-- R120 to R127: an update outside OFF, in its five stages; OVERPRESSURE where relief begins (R126). -/
def runUpdate (s : State) : State :=
  let p := s.par
  let gd := s.dt.governingDemand
  let st := decidedState s.pi.pdis gd
  let g := s.withTerms s.pg
  let d := seedDemand s g
  let g := ({ g with cCav := cavTerm p s.pi.pint g.cCav d } : PG).withCeiling p
  let relief := relieves p s.pi.pdis
  let step := if relief then -2 * (p.maxStep : Int) else stepOf p st gd (s.pi.pdis.published.getD 0) d
  let d' := clampInt (d + step) p.idle g.ceiling
  let t := s.setPg { g with
    state := st, governing := gd.map Prod.fst, demand := d', lastStep := step, relief := relief,
    thrDuty := dutyOf p d', thrMode := thrModeOf st s.mc.mode }
  if relief && !s.pg.relief then standardFault .overpressure none t else t

/-- R120: the update timer expires. -/
def governorUpdates (s : State) : State :=
  if s.pg.updateTimer.isNone then s
  else
    let s := s.setPg { s.pg with updateTimer := some 100 }
    if s.offCondition then offUpdate s else runUpdate s

/-- GOVERNOR_UPDATE (R120). -/
def execGovernorUpdate (s : State) : Host.Outcome State Fault Refusal := .next (governorUpdates s)

/-! ## New parameter values -/

/-- R118, R123: a validation that finds the profile VALID: demand, C_cav and C_roll set again from the values in use, the
ceiling recomputed from the terms (log 24). -/
def govValidated (s : State) : State :=
  let p := s.par
  s.setPg (({ s.pg with
    demand := p.idle, cCav := p.pumpMax, cRoll := p.pumpMax,
    cPath := pathTerm p s.mc.mode, cSupply := supplyTerm p s.pg.supplyCase } : PG).withCeiling p)

/-- R130, R121, R189 step 3: a completed write that brings the values of group 0 into use. C_path and C_supply are taken from the new
values in this event: C_path by the mode (R123), in ROLL the new roll floor maximum, and C_supply by the case last stored. A write completes beside an empty table, where the governor
is OFF or in IDLE_HOLD, so in ROLL THRMODE is OFF and the floor that R76's maximum caps is next driven at an update (R79, log 24). -/
def govNewValues (s : State) : State :=
  let p := s.par
  let g := ({ s.pg with
    cCav := p.pumpMax, cRoll := if s.mc.overEp then (p.idle : Int) else p.pumpMax,
    cPath := pathTerm p s.mc.mode, cSupply := supplyTerm p s.pg.supplyCase } : PG).withCeiling p
  let d := if g.state = .off then (p.idle : Int) else clampInt g.demand p.idle g.ceiling
  s.setPg { g with demand := d, thrDuty := dutyOf p d, thrMode := thrModeOf g.state s.mc.mode }

end Sys2Proof.Machine
end

