-- ==== Sys2Proof/Machine/Modes.lean ====
section
/-! DEFINITION. The Mode Controller's own events: the input sample with its debouncing (R58 to R60) and the Resource
Manager's part of an input change (R28, R38 to R40, R46), the stillness expiry with the clearing of cuts (R53, R63), the
split position watch's expiry (R62), the grace expiry (R85), and the drive outputs before the first sample (R191). -/
namespace Sys2Proof.Machine

/-! ## Debouncing (R58) -/

/-- R58: one sample passed through a debouncer with count `n`. -/
def Debouncer.sample (n : Nat) (x : Bool) (d : Debouncer) : Debouncer :=
  if x = d.level then { d with run := 0 }
  else if n ≤ d.run + 1 then ⟨x, 0⟩
  else { d with run := d.run + 1 }

/-- One sample of the eight inputs. -/
def sampleAll (n : Nat) (l : Inputs) (d : Eight Debouncer) : Eight Debouncer where
  park := d.park.sample n l.park
  neutral := d.neutral.sample n l.neutral
  pumprange := d.pumprange.sample n l.pumprange
  shroad := d.shroad.sample n l.shroad
  shpump := d.shpump.sample n l.shpump
  ptorOn := d.ptorOn.sample n l.ptorOn
  ptoaOn := d.ptoaOn.sample n l.ptoaOn
  ptobOn := d.ptobOn.sample n l.ptobOn

/-- The accepted levels set without debouncing at the first sample (R59). -/
def initDebouncers (l : Inputs) : Eight Debouncer :=
  ⟨⟨l.park, 0⟩, ⟨l.neutral, 0⟩, ⟨l.pumprange, 0⟩, ⟨l.shroad, 0⟩, ⟨l.shpump, 0⟩, ⟨l.ptorOn, 0⟩, ⟨l.ptoaOn, 0⟩,
    ⟨l.ptobOn, 0⟩⟩

/-! ## Before orphan marking (R191) -/

/-- R191: the drive outputs follow these levels. -/
def outputsFollow (l : Inputs) (s : State) : State :=
  s.setRm { s.rm with
    split := { s.rm.split with cmd := followShift l }, ptor := { s.rm.ptor with cmd := followPtor l },
    ptoa := { s.rm.ptoa with cmd := l.ptoaOn }, ptob := { s.rm.ptob with cmd := l.ptobOn } }

/-- The four confirmed positions follow their inputs (R28), without any report. -/
def confirmsFollow (s : State) : State :=
  s.setRm { s.rm with
    split := { s.rm.split with conf := s.input .split }, ptor := { s.rm.ptor with conf := s.input .ptor },
    ptoa := { s.rm.ptoa with conf := s.input .ptoa }, ptob := { s.rm.ptob with conf := s.input .ptob } }

/-- Before orphan marking the drive outputs follow the debounced inputs and the confirmed positions follow them in
silence (R191, log 6); in lockdown the outputs keep their lockdown positions (R54). -/
def followBeforeMarking (s : State) : State :=
  confirmsFollow (if s.fc.lockdown then s else outputsFollow s.mc.accepted s)

/-! ## The input change (R60) -/

/-- R46: the path-both condition. -/
def State.pathBothCondition (s : State) : Bool := s.mc.splitPos == .engaged && s.mc.accepted.ptorOn

/-- R46: the path-both test, reporting once for the episode. -/
def pathBothTest (s : State) : State :=
  if s.pathBothCondition then
    (if s.rm.pathBoth then s else criticalFault .pathBoth none (s.setRm { s.rm with pathBoth := true }))
  else s.setRm { s.rm with pathBoth := false }

/-- R28, R30, R45: the confirmed position of a resource with no shift in flight follows its input, its drift condition is looked at
there, and the pump path is evaluated after each resource in turn (log 36). -/
def followConfirm (r : Res) (s : State) : State :=
  if s.rm.shiftOf r then s else checkPumpPath (driftLapses r (takeConfirm r s))

/-- R40: a shift in SETTLE whose confirm input leaves the new position goes back to ACTUATE. -/
def tryBounce (s : State) : State :=
  match s.rm.shift with
  | some sh =>
    if sh.stage = .settle ∧ s.input sh.res ≠ sh.op.target then
      s.setRm { s.rm with shift := some { sh with stage := .actuate, timer := s.par.confirmTime } }
    else s
  | none => s

/-- R38 to R40: what an input change does to the shift in flight, by its stage. -/
def stageChange (s : State) : State :=
  match s.rm.shift with
  | some sh =>
    match sh.stage with
    | .prepare => tryActuate s
    | .actuate => trySettle s
    | .settle => tryBounce s
  | none => s

/-- R60: the Resource Manager acts on an input change, before and after orphan marking. The path-both test comes after what the
change does to the shift in flight (log 41, DESIGN CHOICE: R46 and R60 give no order between them). -/
def inputChange (s : State) : State :=
  if s.ps.validated then pathBothTest (stageChange (allRes.foldl (fun s r => followConfirm r s) s))
  else pathBothTest (followBeforeMarking s)

/-! ## The input sample -/

/-- R59, R192 stage 2: the first sample after a reset sets the accepted levels, starts the validation, and gives the
path-both test its first inputs (R46). -/
def firstSample (l : Inputs) (s : State) : State :=
  let s := s.setMc { s.mc with deb := initDebouncers l, inited := true }
  let s := s.setPs { s.ps with validationTimer := some 30 }
  pathBothTest (followBeforeMarking s)

/-- R58: a later sample; where it changes an accepted level, the change is published (R60). -/
def laterSample (l : Inputs) (s : State) : State :=
  let t := s.setMc { s.mc with deb := sampleAll s.par.debounce l s.mc.deb }
  if t.mc.accepted = s.mc.accepted then t else finish s (inputChange t)

/-- R58: the sample timer expires with the lines at these levels; nothing while it is stopped (log 2). -/
def inputSampled (l : Inputs) (s : State) : State :=
  if s.mc.sampleTimer.isNone then s
  else
    let t := (s.setMc { s.mc with sampleTimer := some 5 }).setSys { s.sys with lines := l }
    if t.mc.inited then laterSample l t else finish s (firstSample l t)

/-- INPUT_SAMPLE (R58). -/
def execInputSample (levels : Inputs) (s : State) : Host.Outcome State Fault Refusal := .next (inputSampled levels s)

/-- DRIVE_OUTPUTS_FOLLOW_LINES (R191): the lines show these levels; until the first input sample after a reset the drive
outputs follow them. -/
def linesShow (l : Inputs) (s : State) : State :=
  let t := s.setSys { s.sys with lines := l }
  if s.sys.resetActive || !s.mc.inited then outputsFollow l t else t

/-- DRIVE_OUTPUTS_FOLLOW_LINES (R191). -/
def execDriveOutputsFollowLines (levels : Inputs) (s : State) : Host.Outcome State Fault Refusal :=
  .next (linesShow levels s)

/-! ## Stillness (R53, R63) -/

/-- R53: a cut take-off is cleared, wanted again where it has holders, and reported uncut. -/
def clearCut (r : Res) (s : State) : State :=
  if (s.res r).cut then
    let s := s.setRes r { s.res r with cut := false }
    reportCut r false (if s.wanted r then becameWanted r s else s)
  else s

/-- R63, R38, R53: the stillness flag becomes true: the shift in PREPARE is tested, then the cuts are cleared
(log 28). -/
def becomesStill (s : State) : State :=
  clearCut .ptob (clearCut .ptoa (tryActuate (s.setMc { s.mc with still := true, stillTimer := none })))

/-- R63: the stillness timer expires; not where a pulse taken first has restarted it (log 2). -/
def stillnessExpires (s : State) : State :=
  if s.mc.stillOvertaken then s.setMc { s.mc with stillOvertaken := false }
  else if s.mc.stillTimer.isNone then s
  else if s.mc.still then s.setMc { s.mc with stillTimer := none }
  else finish s (becomesStill s)

/-- STILLNESS_EXPIRY (R63). -/
def execStillnessExpiry (s : State) : Host.Outcome State Fault Refusal := .next (stillnessExpires s)

/-! ## Split position watch and overspeed grace -/

/-- R62: the timer of the split position watch expires. -/
def splitWatchExpires (s : State) : State :=
  if s.mc.splitTimer.isNone then s
  else finish s (criticalFault .splitLost (some .split)
    (s.setMc { s.mc with splitTimer := none, splitReported := true }))

/-- SPLIT_WATCH_EXPIRY (R62). -/
def execSplitWatchExpiry (s : State) : Host.Outcome State Fault Refusal := .next (splitWatchExpires s)

/-- R85: a roll overspeed episode starts. -/
def overspeedStarts (s : State) : State :=
  let s := reportOverspeed true (s.setMc { s.mc with graceTimer := none, overEp := true })
  standardFault .rollOverspeed (some .ptor) (govOverspeedStart s)

/-- R85: the grace timer expires. -/
def graceExpires (s : State) : State :=
  if s.mc.graceTimer.isNone then s else finish s (overspeedStarts s)

/-- GRACE_EXPIRY (R85). -/
def execGraceExpiry (s : State) : Host.Outcome State Fault Refusal := .next (graceExpires s)

end Sys2Proof.Machine
end

