-- ==== Sys2Proof/Machine/Requests.lean ====
section
/-! DEFINITION. How a request is taken at CS_N rise (R173, R175): the transaction ends, a RESYNC in progress answers
BUSY, and the owner's answer is placed in the answer buffer. -/
namespace Sys2Proof.Machine

/-- What an owner answers: the result and the body (R176). -/
structure Reply where
  result : Result
  body : Body
  deriving DecidableEq, Repr

/-- An answer without a body. -/
def Reply.of (r : Result) : Reply := ⟨r, .empty⟩

/-- The STALE answer with the named slot's condition and generation (R2). -/
def Reply.stale (c : Condition) (gen : Nat) : Reply := ⟨.stale, .stale c gen⟩

/-- The transaction ends: nothing is in progress and nothing is shifted out. -/
def endTransaction (s : State) : State := s.setCp { s.cp with txn := .idle, sdo := none }

/-- Places an answer in the answer buffer (R175). -/
def putAnswer (code : Byte) (r : Reply) (s : State) : State :=
  s.setCp { s.cp with answer := ⟨code, r.result, r.body⟩ }

/-- A request taken at CS_N rise: not while a reset lasts (R179), not in a transaction that RESYNC's completion aborted
(R184), BUSY while a RESYNC is in progress (R175 check 3), otherwise executed by its owner. -/
def takeRequest (code : Byte) (duringResync : Bool) (serve : State → State × Reply) (s : State) : State :=
  if s.sys.resetActive then s
  else if s.cp.txn = .aborted then endTransaction s
  else
    let s := endTransaction s
    if s.cp.resync && !duringResync then putAnswer code (.of .busy) s
    else
      let p := serve s
      putAnswer code p.2 p.1

/-- A request that only reads: the state is unchanged and the answer gives it as it stands (R173). -/
def takeRead (code : Byte) (duringResync : Bool) (read : State → Reply) (s : State) : State :=
  takeRequest code duringResync (fun s => (s, read s)) s

end Sys2Proof.Machine
end

