-- ==== Sys2Proof/Machine/Demands.lean ====
section
/-! DEFINITION. The Demand Table's requests: OPEN (R10 to R13), AMEND (R14, R15), RETIRE (R16), RETIRE_STATION (R17), QUERY
(R18), FIND (R19), RENEW (R82), and the lease's expiry (R81). -/
namespace Sys2Proof.Machine

/-! ## Opening a record (R12) -/

/-- R13: the hold reasons that apply at once to a new record. -/
def State.initialReasons (s : State) (d : Demand) : Reasons :=
  match d with
  | .pumpStat _ _ => { Reasons.none with critical := s.fc.critical.isSome }
  | .pumpRoll _ _ => { Reasons.none with critical := s.fc.critical.isSome, overspeed := s.mc.overEp }
  | .aux .a => { Reasons.none with speedCut := s.rm.ptoa.cut }
  | .aux .b => { Reasons.none with speedCut := s.rm.ptob.cut }
  | .discharge _ src _ _ =>
    { Reasons.none with
      noPump := !s.rm.pathEngaged,
      tankEmpty := src == .tank && s.tk.t0.state == .vol .empty }

/-- The lease a new record starts with (R81). -/
def newLease (p : Params) (d : Demand) : Lease :=
  match d with
  | .pumpRoll _ _ => ⟨p.leasePeriod, true, false⟩
  | _ => ⟨0, false, false⟩

/-- R12 steps 1 and 2: the record stored in its slot with the slot's present generation, changed flag clear. Its state is
given by step 5. -/
def storeRecord (i station : Nat) (x : Spec) (s : State) : State :=
  let d := (x.clamp s.par).demand (fun _ => .clear)
  let slot := s.dt.slot i
  s.setDt (s.dt.setSlot i
    { slot with cond := .occupied ⟨d, station, .queued, .none, newLease s.par d, false⟩ })

/-- R12 steps 4 and 5 for one record: the reasons that apply at once, the foam suspension, the service rule. -/
def Rec.placed (s : State) (r : Rec) : Rec :=
  let d := match r.demand with
    | .discharge o src flow (some f) => .discharge o src flow (some { f with susp := s.suspension f.tank })
    | d => d
  service s.rm { r with demand := d, reasons := s.initialReasons d }

/-- R12 steps 4 and 5 for the record of a slot. -/
def placeRecord (i : Nat) (s : State) : State :=
  s.setDt (s.dt.setSlot i ((s.dt.slot i).mapRec (Rec.placed s)))

/-- R12 step 3: one new holder of the kind's resource. -/
def reportNewHolder (x : Spec) (s : State) : State :=
  match (x.demand (fun _ => .clear)).resource with
  | some r => holdersMore r 1 s
  | none => s

/-- R12 step 6: a pump-kind record at the front of the governing list. -/
def pushGoverning (x : Spec) (d : Descriptor) (s : State) : State :=
  if x.kind = .pumpStat ∨ x.kind = .pumpRoll then s.setDt { s.dt with governing := d :: s.dt.governing } else s

/-- R12: an accepted OPEN creates the record in slot `i`. -/
def openRecord (i station : Nat) (x : Spec) (s : State) : State :=
  let d : Descriptor := ⟨i, (s.dt.slot i).gen⟩
  let s := pushGoverning x d (placeRecord i (reportNewHolder x (storeRecord i station x s)))
  if x.kind = .discharge then recomputeDraws s else s

/-- The answer to an accepted OPEN (R10): the descriptor, the initial state and reasons, the value as stored. -/
def openReply (i : Nat) (clamped : Bool) (s : State) : Reply :=
  match (s.dt.slot i).record with
  | some r => ⟨if clamped then .clamped else .ok, .opened ⟨i, (s.dt.slot i).gen⟩ r.state r.reasons r.demand.stored⟩
  | none => .of .ok

/-- R10: OPEN's checks in order, then R12. The new record's own creation is exempt from R21. -/
def serveOpen (station : Nat) (body : DemandBody) (s : State) : State × Reply :=
  if s.storeBusy then (s, .of .busy)
  else match specOf body with
    | none => (s, .of .badArg)
    | some x =>
      if !stationOk station || !s.tanksPresent x then (s, .of .badArg)
      else if !s.profileValid then (s, .of .noProfile)
      else if s.fc.lockdown then (s, .of .lockdown)
      else match s.dt.freeSlots with
        | [] => (s, .of .tableFull)
        | i :: _ =>
          if s.dt.pathConflict x.kind then (s, .of .pathConflict)
          else if s.dt.outletBusy x.outlet then (s, .of .outletBusy)
          else
            let t := openRecord i station x s
            (endEvent s (s.dt.slots.set i (t.dt.slot i)) t, openReply i (x.isClamped s.par) t)

/-- OPEN (R10). -/
def execOpen (station : Nat) (body : DemandBody) (s : State) : Host.Outcome State Fault Refusal :=
  .next (takeRequest 0x01 false (serveOpen station body) s)

/-! ## Amending (R14, R15) -/

/-- R14 order 5: the restated kind, station, target, outlet and source are the record's. -/
def Rec.restatedBy (r : Rec) (station : Nat) (x : Spec) : Bool :=
  r.station == station && (match r.demand, x with
    | .pumpStat _ _, .pumpStat _ _ => true
    | .pumpRoll _ _, .pumpRoll _ _ => true
    | .aux t, .aux t' => t == t'
    | .discharge o src _ _, .discharge o' src' _ _ => o == o' && src == src'
    | _, _ => false)

/-- R15: the foam suspension an AMEND leaves: kept while the tank is the same, by the rule when the part is added or its
tank changed. -/
def amendedSusp (susp : FoamTank → FoamSusp) (old : Demand) (t : FoamTank) : FoamSusp :=
  match old.foam with
  | some f => if f.tank = t then f.susp else susp t
  | none => susp t

/-- A record with its lease restarted and LEASE removed (R15, R82). Where the lease had just run out, its expiry does not happen
(R83). -/
def Rec.renewed (p : Params) (r : Rec) : Rec :=
  { r with
    lease := ⟨p.leasePeriod, true, r.lease.overtaken || r.lease.due⟩, reasons := r.reasons.set .lease false }

/-- R15: the amended record. -/
def Rec.amended (s : State) (x : Spec) (r : Rec) : Rec :=
  let r' : Rec := { r with demand := (x.clamp s.par).demand (amendedSusp s.suspension r.demand) }
  match x with
  | .pumpStat _ _ => service s.rm r'
  | .pumpRoll _ _ => service s.rm (r'.renewed s.par)
  | .aux _ => r'
  | .discharge _ _ _ _ => r'

/-- R15: an accepted AMEND of the record in slot `i`. -/
def amendRecord (d : Descriptor) (x : Spec) (s : State) : State :=
  let t := s.dt.setSlot d.slot ((s.dt.slot d.slot).mapRec (Rec.amended s x))
  match x.kind with
  | .pumpStat => storeTable { t with governing := d :: t.governing.filter (· != d) } s
  | .pumpRoll => storeTable { t with governing := d :: t.governing.filter (· != d) } s
  | .aux => s
  | .discharge => recomputeDraws (s.setDt t)

/-- The answer to an accepted AMEND (R15): state, hold reasons and stored values after it. -/
def amendReply (i : Nat) (clamped : Bool) (s : State) : Reply :=
  match (s.dt.slot i).record with
  | some r => ⟨if clamped then .clamped else .ok, .amended r.state r.reasons r.demand⟩
  | none => .of .ok

/-- R14: AMEND's checks in order, then R15. The named record's own change is exempt from R21. Order 1 holds a given foam tank
against the profile, as R14 names it, and not a restated source TANK (log 45, DESIGN CHOICE): with T0 not present that is refused
at a later order. -/
def serveAmend (body : Option AmendBody) (s : State) : State × Reply :=
  match body with
  | none => (s, .of .badArg)
  | some b =>
    match specOf b.body with
    | none => (s, .of .badArg)
    | some x =>
      if b.desc.slot > 23 || !stationOk b.station || !s.foamPresent x then (s, .of .badArg)
      else if s.fc.lockdown then (s, .of .lockdown)
      else match s.dt.named b.desc with
        | .badArg => (s, .of .badArg)
        | .stale c g => (s, .stale c g)
        | .record i r =>
          if r.isForfeit then (s, .of .notPermitted)
          else if !r.restatedBy b.station x then (s, .of .badArg)
          else
            let t := amendRecord b.desc x s
            (endEvent s (s.dt.slots.set i (t.dt.slot i)) t, amendReply i (x.isClamped s.par) t)

/-- AMEND (R14). -/
def execAmend (body : Option AmendBody) (s : State) : Host.Outcome State Fault Refusal :=
  .next (takeRequest 0x02 false (serveAmend body) s)

/-! ## Retiring (R16, R17) -/

/-- R16: the record of a slot is retired: off the governing list, the slot FREE with its generation advanced, then the
holder report and the Tank Monitor's. -/
def retireSlot (i : Nat) (s : State) : State :=
  let x := s.dt.slot i
  match x.record with
  | none => s
  | some r =>
    let d : Descriptor := ⟨i, x.gen⟩
    let s := storeTable { s.dt.setSlot i x.emptied with governing := s.dt.governing.filter (· != d) } s
    let s := match r.isForfeit, r.demand.resource with
      | false, some q => holdersFewer q 1 s
      | _, _ => s
    if r.isDischarge then recomputeDraws s else s

/-- R16: RETIRE's checks, then the removal. -/
def serveRetire (desc : Option Descriptor) (s : State) : State × Reply :=
  match s.dt.resolve desc with
  | .badArg => (s, .of .badArg)
  | .stale c g => (s, .stale c g)
  | .record i _ => (finish s (retireSlot i s), .of .ok)

/-- RETIRE (R16). -/
def execRetire (desc : Option Descriptor) (s : State) : Host.Outcome State Fault Refusal :=
  .next (takeRequest 0x03 false (serveRetire desc) s)

/-- Whether a slot holds a record of a station. -/
def Slot.ofStation (station : Nat) (x : Slot) : Bool :=
  match x.record with
  | some r => r.station == station
  | none => false

/-- R17: the slots visited in ascending order, each matching record retired before the next is visited, with the count of
those retired. -/
def retireStationFrom (station : Nat) : List Nat → State × Nat → State × Nat
  | [], p => p
  | i :: rest, p =>
    retireStationFrom station rest
      (if (p.1.dt.slot i).ofStation station then (retireSlot i p.1, p.2 + 1) else p)

/-- R17: RETIRE_STATION. -/
def serveRetireStation (station : Nat) (s : State) : State × Reply :=
  if !stationOk station then (s, .of .badArg)
  else
    let p := retireStationFrom station (List.range 24) (s, 0)
    (finish s p.1, ⟨.ok, .count p.2⟩)

/-- RETIRE_STATION (R17). -/
def execRetireStation (station : Nat) (s : State) : Host.Outcome State Fault Refusal :=
  .next (takeRequest 0x04 false (serveRetireStation station) s)

/-! ## Looking up (R18, R19) -/

/-- A record with its changed flag clear. -/
def Rec.cleared (r : Rec) : Rec := { r with changed := false }

/-- R18: QUERY; the clear flag clears the record's changed flag after the answer's contents are taken. -/
def serveQuery (clear : Bool) (desc : Option Descriptor) (s : State) : State × Reply :=
  match s.dt.resolve desc with
  | .badArg => (s, .of .badArg)
  | .stale c g => (s, .stale c g)
  | .record i r =>
    (if clear then s.setDt (s.dt.setSlot i ((s.dt.slot i).mapRec Rec.cleared)) else s, ⟨.ok, .queried r r.error⟩)

/-- QUERY (R18). -/
def execQuery (clear : Bool) (desc : Option Descriptor) (s : State) : Host.Outcome State Fault Refusal :=
  .next (takeRequest 0x05 false (serveQuery clear desc) s)

/-- Whether a slot's record matches the filters (R19). -/
def Slot.found (f : FindFilter) (station : Nat) (x : Slot) : Bool :=
  match x.record with
  | some r => FindFilter.matches f station r
  | none => false

/-- The descriptors of the matching records in ascending slot order, from slot `i` on (R19). -/
def findFrom (f : FindFilter) (station : Nat) (i : Nat) : List Slot → List Descriptor
  | [] => []
  | x :: rest =>
    if x.found f station then ⟨i, x.gen⟩ :: findFrom f station (i + 1) rest else findFrom f station (i + 1) rest

/-- R19: FIND; the clear flag clears the changed flag of each record returned. -/
def serveFind (station : Nat) (clear : Bool) (filter : Option FindFilter) (s : State) : State × Reply :=
  match filter with
  | none => (s, .of .badArg)
  | some f =>
    if station ≥ 7 || StateSet.isNone f.states then (s, .of .badArg)
    else
      (if clear then s.setDt { s.dt with
          slots := s.dt.slots.map (fun x => if x.found f station then x.mapRec Rec.cleared else x) } else s,
        ⟨.ok, .found (findFrom f station 0 s.dt.slots)⟩)

/-- FIND (R19). -/
def execFind (station : Nat) (clear : Bool) (filter : Option FindFilter) (s : State) :
    Host.Outcome State Fault Refusal :=
  .next (takeRequest 0x06 false (serveFind station clear filter) s)

/-! ## The lease (R81 to R83) -/

/-- R82: RENEW's checks in order, then the restart, the removal of LEASE and the service rule. -/
def serveRenew (station : Nat) (desc : Option Descriptor) (s : State) : State × Reply :=
  match desc with
  | none => (s, .of .badArg)
  | some d =>
    if d.slot > 23 then (s, .of .badArg)
    else if s.fc.lockdown then (s, .of .lockdown)
    else match s.dt.named d with
      | .badArg => (s, .of .badArg)
      | .stale c g => (s, .stale c g)
      | .record i r =>
        if r.demand.kind ≠ .pumpRoll then (s, .of .badArg)
        else if r.station ≠ station then (s, .of .notOwner)
        else if r.isForfeit then (s, .of .notPermitted)
        else
          let r' := service s.rm (r.renewed s.par)
          let t := storeTable (s.dt.setSlot i { s.dt.slot i with cond := .occupied r' }) s
          (endEvent s (s.dt.slots.set i (t.dt.slot i)) t, ⟨.ok, .renewed r'.state r'.reasons r'.lease.remaining⟩)

/-- RENEW (R82). -/
def execRenew (station : Nat) (desc : Option Descriptor) (s : State) : Host.Outcome State Fault Refusal :=
  .next (takeRequest 0x07 false (serveRenew station desc) s)

/-- R81: a record whose lease has run out: remaining 0, the timer stopped, LEASE placed by R23. -/
def Rec.leaseOut (m : RM) (r : Rec) : Rec :=
  Rec.withReason m .lease true (fun _ => true) { r with lease := ⟨0, false, false⟩ }

/-- R83: the expiry that a request has overtaken is over: the record keeps its restarted lease. -/
def Rec.expiryPassed (r : Rec) : Rec := { r with lease := { r.lease with overtaken := false } }

/-- R81, R83: the lease timer of the record in a slot expires. Where a request taken first has restarted the lease, the expiry
does not happen; where no such timer runs, nothing happens (log 2). -/
def leaseExpires (i : Nat) (s : State) : State :=
  match (s.dt.slot i).record with
  | some r =>
    if r.lease.overtaken then s.setDt (s.dt.setSlot i ((s.dt.slot i).mapRec Rec.expiryPassed))
    else if r.lease.running then
      finish s (storeTable (s.dt.setSlot i ((s.dt.slot i).mapRec (Rec.leaseOut s.rm))) s)
    else s
  | none => s

/-- LEASE_EXPIRY (R81). -/
def execLeaseExpiry (slot : Nat) (s : State) : Host.Outcome State Fault Refusal := .next (leaseExpires slot s)

end Sys2Proof.Machine
end

