-- ==== Sys2Proof/Machine/Faults.lean ====
section
/-! DEFINITION. READ_FAULT (R172) and ACK_FAULT with its re-captures (R169 to R171, and the standing conditions of R48, R74,
R108 and R116). -/
namespace Sys2Proof.Machine

/-- READ_FAULT (R172). -/
def readFault (s : State) : Reply :=
  ⟨.ok, .faults s.fc.standard s.fc.also s.fc.critical s.fc.lockdown s.fc.lockdownCap⟩

/-- READ_FAULT (R172). -/
def execReadFault (s : State) : Host.Outcome State Fault Refusal := .next (takeRead 0x22 false readFault s)

/-! ## Standing conditions -/

/-- R108: LEVEL_SENSOR stands while a configured channel is in FAULT. -/
def State.levelFaulted (s : State) : Bool :=
  allTanks.any (fun i => (s.pcu.level i).configured && (s.pcu.level i).state == .fault)

/-- R169 step 3: the standing conditions of the standard causes, in order. -/
def State.standingStandard (s : State) : List (Cause × Bool) :=
  [(.pdisSensor, s.pi.pdis.state == .fault), (.pintSensor, s.pi.pint.state == .fault),
    (.levelSensor, s.levelFaulted)]

/-- R170 step 4: the standing conditions of the critical causes, in order, each with its resource (R74, R48). -/
def State.standingCritical (s : State) : List (Cause × Option Res × Bool) :=
  [(.wheelMotion, none, s.stationary && decide (s.par.motionTolerance < s.pcu.roadSum)),
    (.parkReleased, none, s.stationary && !s.mc.accepted.park),
    (.splitLost, some .split, s.splitCondition && s.mc.splitReported),
    (.pathBoth, none, s.pathBothCondition),
    (.splitStuck, some .split, s.rm.stuck),
    (.splitLost, some .split, s.driftCondition .split && !s.rm.split.driftArmed)]

/-! ## ACK_FAULT -/

/-- R169, R171: the standard slot is emptied, STANDARD cleared, and each standing condition reported again. -/
def ackStandard (s : State) : State :=
  let s := s.setFc { s.fc with standard := none, also := [] }
  let s := clearAtt { noAtt with standard := true } s
  s.standingStandard.foldl (fun s c => if c.2 then standardFault c.1 none s else s) s

/-- R170, R171: the critical slot is emptied, CRITICAL cleared and removed from the records; the first standing condition
refills the slot, a later one is not recorded. -/
def ackCritical (s : State) : State :=
  let s := s.setFc { s.fc with critical := none }
  let s := reportCritical false (clearAtt { noAtt with critical := true } s)
  match s.standingCritical.find? (fun c => c.2.2) with
  | some c => fillCritical c.1 c.2.1 s
  | none => s

/-- R169: ACK_FAULT's checks, then the acknowledgement of the named slot; the answer for an empty slot has no body
(log 35). -/
def serveAckFault (slot : Option FaultSlot) (s : State) : State × Reply :=
  if s.fc.lockdown then (s, .of .lockdown)
  else match slot with
    | none => (s, .of .badArg)
    | some .standard =>
      match s.fc.standard with
      | none => (s, .of .ok)
      | some c =>
        let t := ackStandard s
        (finish s t, ⟨.ok, .acked c.cause (t.fc.standard.map Capture.cause)⟩)
    | some .critical =>
      match s.fc.critical with
      | none => (s, .of .ok)
      | some c =>
        let t := ackCritical s
        (finish s t, ⟨.ok, .acked c.cause (t.fc.critical.map Capture.cause)⟩)

/-- ACK_FAULT (R169). -/
def execAckFault (slot : Option FaultSlot) (s : State) : Host.Outcome State Fault Refusal :=
  .next (takeRequest 0x23 false (serveAckFault slot) s)

end Sys2Proof.Machine
end

