-- ==== Sys2Proof/Machine/Groups.lean ====
section
/-! DEFINITION. The contents of the stored groups: the parameters of group 0, the tank groups, the preset groups with their
templates, the check words (R186), and the checks a whole group passes (R188). The places of the fields and their codes are
free or the model's (logs 18 to 22). -/
namespace Sys2Proof.Machine
open Sys2Proof.Config

/-! ## Words and checks -/

/-- A word of a group. -/
def wordAt (ws : List Word) (i : Nat) : Word := ws.getD i 0

/-- The value of a word as an unsigned number. -/
def valueAt (ws : List Word) (i : Nat) : Nat := (wordAt ws i).toNat

/-- The sum of words modulo 65536. -/
def sumWords (ws : List Word) : Word := ws.foldl (· + ·) 0

/-- R186: the check word of a group's data words. -/
def checkWord (ws : List Word) : Word := -sumWords ws

/-- The bytes of words, the high byte of each first. -/
def bytesOf (ws : List Word) : List Byte := ws.flatMap (fun w => [w.extractLsb' 8 8, w.extractLsb' 0 8])

/-- R151: whether a template's bytes, its check included, sum to 0 modulo 256. -/
def templateGood (ws : List Word) : Bool := (bytesOf ws).foldl (· + ·) 0 == 0

/-- Words from bytes; a last odd byte is dropped. -/
def wordsFrom : List Byte → List Word
  | hi :: lo :: rest => (hi ++ lo) :: wordsFrom rest
  | _ => []

/-- The bytes of a template with its check byte cleared: the template's other contents (R151). -/
def templateContents (ws : List Word) : List Byte := (bytesOf ws).set templateCheckByte.val 0

/-- R151, R188: a template with its check computed and stored in its place. -/
def withTemplateCheck (ws : List Word) : List Word :=
  let bytes := templateContents ws
  wordsFrom (bytes.set templateCheckByte.val (-(bytes.foldl (· + ·) 0)))

/-- R151: the station and the fields that a template's words hold, the check being apart from them. -/
def templateRead (ws : List Word) : Nat × DemandBody := templateFields (wordsFrom (templateContents ws))

/-- R151, R186: the words of a template that no field fills; the word that holds the check is filled by it. -/
def templateUnfilled (ws : List Word) : List (Fin 6) :=
  (List.finRange 6).filter (fun j => templateSpare (wordsFrom (templateContents ws)) j && j.val != templateCheckByte.val / 2)

/-! ## Group 0 -/

/-- Every value held in group 0. -/
def allParams : List Param :=
  [.maxPressure, .engageLimit, .prepTimeout, .confirmTime, .settleTime, .adoptionWindow, .slipTolerance, .ratioNum,
    .ratioDen, .cutoutSpeed, .roadPermittedA, .roadPermittedB, .retainA, .retainB, .debounce, .stillnessTime,
    .motionTolerance, .leasePeriod, .rollLimit, .overspeedGrace] ++
  [.overspeedBand, .rollFloorMax, .enginePulses, .pumpPulses, .roadPulses, .pdisOffset, .pdisSpan, .pdisLo, .pdisHi,
    .pintOffset, .pintSpan, .pintLo, .pintHi, .idle, .pumpMax, .gain, .maxStep, .noFlowCeiling, .reserveCeiling,
    .intakeFloor, .recoveryBand, .retreat, .recovery, .reliefLimit, .stillWeight, .movingWeight]

/-- How a value of group 0 is held: a number in a range, a number from idle to pump maximum, yes or no, RETAIN or RELEASE. -/
inductive ParamKind where
  | number (lo hi : Int)
  | idleToMax
  | yesNo
  | retain
  deriving DecidableEq, Repr

/-- The range of each value of group 0 (R4, R29, R57, R76, R93, R112, R117, R133). -/
def paramKind : Param → ParamKind
  | .maxPressure => .number 200 4000
  | .engageLimit => .number 500 1500
  | .prepTimeout => .number 1 30
  | .confirmTime => .number 200 5000
  | .settleTime => .number 50 1000
  | .adoptionWindow => .number 5 120
  | .slipTolerance => .number 2 25
  | .ratioNum => .number 1 1000
  | .ratioDen => .number 1 1000
  | .cutoutSpeed => .number 10 300
  | .roadPermittedA => .yesNo
  | .roadPermittedB => .yesNo
  | .retainA => .retain
  | .retainB => .retain
  | .debounce => .number 2 20
  | .stillnessTime => .number 800 3000
  | .motionTolerance => .number 0 20
  | .leasePeriod => .number 500 5000
  | .rollLimit => .number 50 600
  | .overspeedGrace => .number 200 5000
  | .overspeedBand => .number 10 100
  | .rollFloorMax => .idleToMax
  | .enginePulses => .number 1 250
  | .pumpPulses => .number 1 250
  | .roadPulses => .number 1000 30000
  | .pdisOffset => .number (-100) 0
  | .pdisSpan => .number 500 4000
  | .pdisLo => .number 0 1000
  | .pdisHi => .number 3000 4095
  | .pintOffset => .number (-100) 0
  | .pintSpan => .number 500 4000
  | .pintLo => .number 0 1000
  | .pintHi => .number 3000 4095
  | .idle => .number 500 1000
  | .pumpMax => .number 1200 2800
  | .gain => .number 1 255
  | .maxStep => .number 10 200
  | .noFlowCeiling => .idleToMax
  | .reserveCeiling => .idleToMax
  | .intakeFloor => .number (-100) 200
  | .recoveryBand => .number 5 200
  | .retreat => .number 10 500
  | .recovery => .number 5 200
  | .reliefLimit => .number 500 4000
  | .stillWeight => .number 1 16
  | .movingWeight => .number 1 16

/-- The offset of a value's word in group 0. -/
def offsetOf (p : Param) : Nat := (paramWord p).val

/-- The word of a value. -/
def paramAt (ws : List Word) (p : Param) : Word := wordAt ws (offsetOf p)

/-- A value as an unsigned number. -/
def numAt (ws : List Word) (p : Param) : Nat := (paramAt ws p).toNat

/-- A value as a number: signed in two's complement where its range goes below 0. -/
def intAt (ws : List Word) (p : Param) : Int :=
  match paramKind p with
  | .number lo _ => if lo < 0 then (paramAt ws p).toInt else (numAt ws p : Int)
  | _ => (numAt ws p : Int)

/-- Whether a value lies in its range. -/
def paramOk (ws : List Word) (p : Param) : Bool :=
  match paramKind p with
  | .number lo hi => decide (lo ≤ intAt ws p) && decide (intAt ws p ≤ hi)
  | .idleToMax => decide (intAt ws .idle ≤ intAt ws p) && decide (intAt ws p ≤ intAt ws .pumpMax)
  | .yesNo => (yesNoCode (paramAt ws p)).isSome
  | .retain => (retainCode (paramAt ws p)).isSome

/-- The orders of group 0 (R76, R112, R117): a pair of values and whether their order holds. -/
def paramOrders (ws : List Word) : List (Param × Param × Bool) :=
  let v := intAt ws
  [(.overspeedBand, .rollLimit, decide (v .overspeedBand < v .rollLimit)),
    (.pdisLo, .pdisHi, decide (v .pdisLo < v .pdisHi)),
    (.pintLo, .pintHi, decide (v .pintLo < v .pintHi)),
    (.idle, .pumpMax, decide (v .idle < v .pumpMax)),
    (.reliefLimit, .maxPressure, decide (v .maxPressure < v .reliefLimit))]

/-- The offsets in a range whose words are not 0, where R186 requires 0. -/
def notZero (ws : List Word) (offsets : List Nat) : List Nat := offsets.filter (fun i => wordAt ws i != 0)

/-- R188: the offsets at which the checks of group 0 fail; an order is charged to the later word of its pair (log 22). -/
def paramFailures (ws : List Word) : List Nat :=
  (allParams.filter (fun p => !paramOk ws p)).map offsetOf
    ++ ((paramOrders ws).filter (fun o => !o.2.2)).map (fun o => max (offsetOf o.1) (offsetOf o.2.1))
    ++ notZero ws ((List.range 48).filter (fun i => !allParams.any (fun p => offsetOf p == i)))

/-- The values in use from group 0. -/
def paramsOf (ws : List Word) : Params where
  engageLimit := numAt ws .engageLimit
  prepTimeout := numAt ws .prepTimeout
  confirmTime := numAt ws .confirmTime
  settleTime := numAt ws .settleTime
  adoptionWindow := numAt ws .adoptionWindow
  slipTolerance := numAt ws .slipTolerance
  ratioNum := numAt ws .ratioNum
  ratioDen := numAt ws .ratioDen
  cutoutSpeed := numAt ws .cutoutSpeed
  roadPermittedA := (yesNoCode (paramAt ws .roadPermittedA)).getD false
  roadPermittedB := (yesNoCode (paramAt ws .roadPermittedB)).getD false
  retainA := (retainCode (paramAt ws .retainA)).getD false
  retainB := (retainCode (paramAt ws .retainB)).getD false
  debounce := numAt ws .debounce
  stillnessTime := numAt ws .stillnessTime
  motionTolerance := numAt ws .motionTolerance
  leasePeriod := numAt ws .leasePeriod
  rollLimit := numAt ws .rollLimit
  overspeedGrace := numAt ws .overspeedGrace
  overspeedBand := numAt ws .overspeedBand
  rollFloorMax := numAt ws .rollFloorMax
  enginePulses := numAt ws .enginePulses
  pumpPulses := numAt ws .pumpPulses
  roadPulses := numAt ws .roadPulses
  pdisOffset := intAt ws .pdisOffset
  pdisSpan := numAt ws .pdisSpan
  pdisLo := numAt ws .pdisLo
  pdisHi := numAt ws .pdisHi
  pintOffset := intAt ws .pintOffset
  pintSpan := numAt ws .pintSpan
  pintLo := numAt ws .pintLo
  pintHi := numAt ws .pintHi
  idle := numAt ws .idle
  pumpMax := numAt ws .pumpMax
  gain := numAt ws .gain
  maxStep := numAt ws .maxStep
  noFlowCeiling := numAt ws .noFlowCeiling
  reserveCeiling := numAt ws .reserveCeiling
  intakeFloor := intAt ws .intakeFloor
  recoveryBand := numAt ws .recoveryBand
  retreat := numAt ws .retreat
  recovery := numAt ws .recovery
  reliefLimit := numAt ws .reliefLimit
  maxPressure := numAt ws .maxPressure
  stillWeight := numAt ws .stillWeight
  movingWeight := numAt ws .movingWeight

/-! ## Tank groups (R133, log 19) -/

/-- Whether a tank group marks its tank present. -/
def tankPresentOf (ws : List Word) : Bool := yesNoCode (wordAt ws 0) == some true

/-- The X mode of a tank group. -/
def tankXMode (ws : List Word) : XMode := (xmodeCode (wordAt ws 2)).getD .x4

/-- The reference count of a tank group. -/
def tankRefCount (ws : List Word) : Nat := valueAt ws 4

/-- The drift limit of a tank group. -/
def tankDriftLimit (ws : List Word) : Nat := valueAt ws 5

/-- The points of a tank group's strapping table. -/
def tankPoints (ws : List Word) : List (Nat × Nat) :=
  (List.range (valueAt ws 8)).map (fun i => (valueAt ws (9 + i), valueAt ws (25 + i)))

/-- The configuration the Tank Monitor takes from a tank group. -/
def tankCfgOf (ws : List Word) : TankCfg where
  zeroCount := valueAt ws 3
  res := valueAt ws 6
  height := valueAt ws 7
  points := tankPoints ws
  empty := valueAt ws 41
  reserve := valueAt ws 42
  low := valueAt ws 43
  hyst := valueAt ws 44

/-- An offset that fails unless the test holds. -/
def failUnless (ok : Bool) (offset : Nat) : List Nat := if ok then [] else [offset]

/-- R133, R188: the offsets at which the fields of a present tank fail. -/
def presentTankFailures (ws : List Word) : List Nat :=
  let v := valueAt ws
  let n := v 8
  failUnless (xmodeCode (wordAt ws 2)).isSome 2
    ++ failUnless (1 ≤ v 4 && v 4 ≤ 65534) 4
    ++ failUnless (1 ≤ v 5 && v 5 ≤ 1000) 5
    ++ failUnless (1 ≤ v 6 && v 6 ≤ 1000) 6
    ++ failUnless (100 ≤ v 7 && v 7 ≤ 4000) 7
    ++ failUnless (2 ≤ n && n ≤ 16) 8
    ++ failUnless (v 9 == 0) 9
    ++ ((List.range 16).flatMap (fun i =>
      if i < n then
        failUnless (v (9 + i) ≤ 4000 && (i == 0 || v (9 + i - 1) < v (9 + i))) (9 + i)
          ++ failUnless (v (25 + i) ≤ 60000 && (i == 0 || v (25 + i - 1) ≤ v (25 + i))) (25 + i)
      else notZero ws [9 + i, 25 + i]))
    ++ failUnless (1 ≤ v (25 + n - 1)) (25 + n - 1)
    ++ failUnless (v 41 ≤ 60000) 41
    ++ failUnless (v 42 ≤ 60000 && v 41 < v 42) 42
    ++ failUnless (v 43 ≤ 60000 && v 42 < v 43 && v 43 ≤ v (25 + n - 1)) 43
    ++ failUnless (v 44 ≤ 2000) 44

/-- R188: the offsets at which the checks of a tank group fail; a tank not present is checked for its present flag and its
role alone. -/
def tankFailures (g : Nat) (ws : List Word) : List Nat :=
  failUnless (yesNoCode (wordAt ws 0)).isSome 0
    ++ failUnless (roleCode (wordAt ws 1) == some (if g = 1 then .water else .foam)) 1
    ++ (if tankPresentOf ws then presentTankFailures ws else [])

/-! ## Preset groups (R151, log 20) -/

/-- The template count of a preset group. -/
def templateCountOf (ws : List Word) : Nat := valueAt ws 0

/-- The six words of a preset group's template. -/
def templateAt (ws : List Word) (k : Nat) : List Word := (List.range 6).map (fun j => wordAt ws (1 + 6 * k + j))

/-- What bounds a stored setpoint: the profile's maximum pressure setpoint, idle and pump maximum (R4). -/
structure Limits where
  maxPressure : Nat
  idle : Nat
  pumpMax : Nat
  deriving DecidableEq, Repr

/-- R151, R188: the template fields whose values lie out of range, a setpoint by R4 with these limits. -/
def templateFailures (lim : Limits) (ws : List Word) : List TemplateField :=
  let p := templateRead ws
  let gov (g : Option GovMode) (sp : Nat) : List TemplateField :=
    match g with
    | none => [.gov]
    | some .pressure => if sp ≤ lim.maxPressure then [] else [.setpoint]
    | some .speed => if lim.idle ≤ sp ∧ sp ≤ lim.pumpMax then [] else [.setpoint]
  (if p.1 ≤ 6 then [] else [.station]) ++ (match p.2 with
    | .malformed => [.kind]
    | .pumpStat g sp => gov g sp
    | .pumpRoll g sp => gov g sp
    | .aux t => if t.isSome then [] else [.target]
    | .discharge o src flow foam =>
      (if o ≤ 7 then [] else [.outlet]) ++ (if src.isSome then [] else [.source])
        ++ (if flow ≤ 10000 then [] else [.flow])
        ++ (match foam with
          | none => []
          | some f =>
            (if f.tank = 1 ∨ f.tank = 2 then [] else [.foamTank])
              ++ (if 1 ≤ f.ratio ∧ f.ratio ≤ 100 then [] else [.foamRatio])))

/-- R188: the offsets at which the checks of a preset group fail: the count, a field out of range, a word that no field fills
or no template uses and that is not 0 (R186). -/
def presetFailures (lim : Limits) (ws : List Word) : List Nat :=
  let n := templateCountOf ws
  failUnless (n ≤ 6) 0
    ++ (List.range 6).flatMap (fun k =>
      if k < n then
        (templateFailures lim (templateAt ws k)).map (fun f => 1 + 6 * k + (templateWord f).val)
          ++ notZero ws ((templateUnfilled (templateAt ws k)).map (fun j => 1 + 6 * k + j.val))
      else notZero ws ((List.range 6).map (fun j => 1 + 6 * k + j)))

/-! ## A whole group -/

/-- R188: the offsets at which a group's contents fail their checks. -/
def groupFailures (lim : Limits) (g : Nat) (ws : List Word) : List Nat :=
  if g = 0 then paramFailures ws else if g ≤ 3 then tankFailures g ws else presetFailures lim ws

/-- The lowest of a list of offsets. -/
def lowest : List Nat → Option Nat
  | [] => none
  | x :: rest => match lowest rest with
    | none => some x
    | some y => some (min x y)

/-- R188: the offset of the first word that fails, in word order. -/
def firstFailure (lim : Limits) (g : Nat) (ws : List Word) : Option Nat := lowest (groupFailures lim g ws)

/-- R188: a preset group with each template's check computed; any other group as it is. -/
def withChecks (g : Nat) (ws : List Word) : List Word :=
  if g ≤ 3 then ws
  else wordAt ws 0 :: (List.range 6).flatMap (fun k =>
    if k < templateCountOf ws then withTemplateCheck (templateAt ws k) else templateAt ws k)

/-- R186, R189: the condition of a stored group, given the offsets at which its contents fail. -/
def conditionBy (failures : List Nat) (g : Nat) (x : Group) : GroupCond :=
  if x.torn then .bad
  else if x.data.all (· == 0xFFFF) && x.check == 0xFFFF then .blank
  else if x.data.length = groupSize g ∧ sumWords x.data + x.check = 0 ∧ failures = [] then .good
  else .bad

/-- R186, R189: the condition of a stored group under these limits. -/
def conditionOf (lim : Limits) (g : Nat) (x : Group) : GroupCond := conditionBy (groupFailures lim g x.data) g x

/-- R186: the validity of the profile from its twelve conditions. -/
def validityOf (conds : List GroupCond) : Validity :=
  if conds.all (· == .blank) then .blank else if conds.all (· == .good) then .valid else .invalid

/-- The stored group of a number. -/
def PS.group (p : PS) (g : Nat) : Group := p.groups.getD g (Group.blank g)

/-- The limits that group 0's values give. -/
def Params.limits (p : Params) : Limits := ⟨p.maxPressure, p.idle, p.pumpMax⟩

/-- R4, R151: the limits by which templates are checked, from group 0 as it is stored; the values of the last column while group 0
is not GOOD (log 21, DEDUCED). -/
def PS.limits (p : PS) : Limits :=
  let x := p.group 0
  if conditionBy (paramFailures x.data) 0 x = .good then (paramsOf x.data).limits else invalidParams.limits

/-- The conditions of the groups as stored. -/
def PS.storedConds (p : PS) : List GroupCond := (List.range 12).map (fun g => conditionOf p.limits g (p.group g))

end Sys2Proof.Machine
end

