-- ==== Sys2Proof/Machine/Presets.lean ====
section
/-! DEFINITION. The Preset Engine: APPLY_PRESET (R153), the template reads (R154), the check (R155), the commit (R156) and
the end of the apply (R157). -/
namespace Sys2Proof.Machine

/-! ## APPLY_PRESET (R153) -/

/-- The slots reserved for an apply (R1, R153). -/
def reserveSlots (slots : List Slot) : List Nat → List Slot
  | [] => slots
  | i :: rest => reserveSlots (slots.set i { slots.getD i Slot.reset with cond := .reserved }) rest

/-- R153: the acceptance of an apply with these slots. -/
def acceptApply (preset station count : Nat) (slots : List Nat) (s : State) : State :=
  let s := s.setDt { s.dt with slots := reserveSlots s.dt.slots slots }
  s.setPe { s.pe with
    apply := some ⟨preset, station, count, slots, 0, 2, []⟩
    result := .running preset station count slots 0 }

/-- R153: the checks in order. A preset whose count is not known is taken as an empty one (log 33). -/
def serveApply (station : Nat) (preset : Option Nat) (s : State) : State × Reply :=
  if s.storeBusy then (s, .of .busy)
  else match preset with
    | none => (s, .of .badArg)
    | some n =>
      if n > 7 || !stationOk station then (s, .of .badArg)
      else if !s.profileValid then (s, .of .noProfile)
      else if s.fc.lockdown then (s, .of .lockdown)
      else if s.pe.apply.isSome then (s, .of .busy)
      else
        let count := (s.pe.counts.getD n none).getD 0
        if count = 0 then (s, .of .badArg)
        else if s.dt.freeSlots.length < count then (s, .of .tableFull)
        else
          let slots := s.dt.freeSlots.take count
          (acceptApply n station count slots s, ⟨.accepted, .applied count slots⟩)

/-- APPLY_PRESET (R153). -/
def execApplyPreset (station : Nat) (preset : Option Nat) (s : State) : Host.Outcome State Fault Refusal :=
  .next (takeRequest 0x18 false (serveApply station preset) s)

/-! ## The check (R155) -/

/-- R155 test 2: a template of the other pump kind. -/
def otherPump (k : Kind) (x : Spec) : Bool :=
  match k, x.kind with
  | .pumpStat, .pumpRoll => true
  | .pumpRoll, .pumpStat => true
  | _, _ => false

/-- R155: the first test a template fails, given the templates before it. -/
def templateTest (s : State) (earlier : List Template) (t : Template) : Option AbandonReason :=
  if !s.tanksPresent t.spec then some .badArg
  else if s.dt.pathConflict t.spec.kind || earlier.any (fun e => otherPump t.spec.kind e.spec) then some .pathConflict
  else if s.dt.outletBusy t.spec.outlet
      || (t.spec.outlet.isSome && earlier.any (fun e => e.spec.outlet == t.spec.outlet)) then some .outletBusy
  else none

/-- R155: the templates tested in order, from template `k` on: the first failure with its index. -/
def checkTemplates (s : State) (earlier : List Template) (k : Nat) : List Template → Option (AbandonReason × Nat)
  | [] => none
  | t :: rest =>
    match templateTest s earlier t with
    | some why => some (why, k)
    | none => checkTemplates s (earlier ++ [t]) (k + 1) rest

/-! ## The commit (R156) -/

/-- R156 phase 2: the new holders of a resource, reported together. -/
def reportTemplateHolders (l : List Template) (s : State) (r : Res) : State :=
  let n := l.countP (fun t => (t.spec.demand (fun _ => .clear)).resource == some r)
  if n = 0 then s else holdersMore r n s

/-- R156: the five phases of a commit, each completed for all templates; `l` pairs the reserved slots with the
templates. -/
def commitTemplates (l : List (Nat × Template)) (s : State) : State :=
  let s := l.foldl (fun s p => storeRecord p.1 p.2.station p.2.spec s) s
  let s := allRes.foldl (reportTemplateHolders (l.map Prod.snd)) s
  let s := l.foldl (fun s p => placeRecord p.1 s) s
  let s := l.foldl (fun s p => pushGoverning p.2.spec ⟨p.1, (s.dt.slot p.1).gen⟩ s) s
  if l.any (fun p => p.2.spec.kind == .discharge) then recomputeDraws s else s

/-- R157 at commit: the apply ends with the descriptors of its records. -/
def endCommit (a : Apply) (l : List (Nat × Template)) (s : State) : State :=
  let descs := l.map (fun p => ((⟨p.1, (s.dt.slot p.1).gen⟩ : Descriptor), p.2.spec.isClamped s.par))
  raiseAtt .presetDone (s.setPe { s.pe with
    apply := none, result := .done a.preset a.station a.count descs })

/-- R155, R156: the check of the whole set and the commit, or the abandonment. -/
def checkAndCommit (a : Apply) (templates : List Template) (s : State) : State :=
  match checkTemplates s [] 0 templates with
  | some (why, k) => abandonApply why (some k) s
  | none =>
    let l := a.slots.zip templates
    endCommit a l (commitTemplates l s)

/-! ## A read completion (R154) -/

/-- The template that six stored words describe, the applying station in place of station 0; none where a field is out of
range (log 20). -/
def templateOf (applying : Nat) (ws : List Word) : Option Template :=
  let p := templateRead ws
  (specOf p.2).map (fun x => ⟨if p.1 = 0 then applying else p.1, x⟩)

/-- Slots in which those of these numbers stand as a table holds them: the records a commit creates are measured from what the
commit made of them (R21, log 12). -/
def withSlotsOf (t : DT) (l : List Nat) (slots : List Slot) : List Slot :=
  l.foldl (fun acc i => acc.set i (t.slot i)) slots

/-- R154: the read timer expires. -/
def readCompletes (s : State) : State :=
  match s.pe.apply with
  | none => s
  | some a =>
    let ws := templateAt (s.ps.group (4 + a.preset)).data a.readIndex
    match if templateGood ws then templateOf a.station ws else none with
    | none => finish s (abandonApply .storeError (some a.readIndex) s)
    | some t =>
      let templates := a.templates ++ [t]
      let n := a.readIndex + 1
      let s' := s.setPe { s.pe with
        apply := some { a with readIndex := n, timer := 2, templates := templates },
        result := .running a.preset a.station a.count a.slots n }
      if n < a.count then s'
      else
        let t := checkAndCommit a templates s'
        endEvent s (withSlotsOf t.dt a.slots s.dt.slots) t

/-- TEMPLATE_READ_COMPLETION (R154). -/
def execTemplateReadCompletion (s : State) : Host.Outcome State Fault Refusal := .next (readCompletes s)

end Sys2Proof.Machine
end

