-- ==== Sys2Proof/Machine/Tanks.lean ====
section
/-! DEFINITION. The Tank Monitor's update (R135 to R142), the handing on of its changes (R135, R144, R145), and the loads
of the level channels (R109) and of the tanks (R134). -/
namespace Sys2Proof.Machine

/-! ## Level and volume -/

/-- R136: the level in mm of a count. -/
def levelOf (c : TankCfg) (count : Nat) : Nat :=
  (clampInt ((((count : Int) - c.zeroCount) * c.res).fdiv 100) 0 c.height).toNat

/-- R137: the volume in litres that a strapping table gives for a level. -/
def volumeOf (level : Nat) : List (Nat × Nat) → Nat
  | [] => 0
  | [p] => p.2
  | p :: q :: rest =>
    if level < q.1 then p.2 + (level - p.1) * (q.2 - p.2) / (q.1 - p.1) else volumeOf level (q :: rest)

/-- The capacity: the last volume of the strapping table (R132). -/
def TankCfg.capacity (c : TankCfg) : Nat :=
  match c.points.getLast? with
  | some p => p.2
  | none => 0

/-- R138: a step of the filter. -/
def filterStep (w raw filtered : Nat) : Nat :=
  let delta : Int := (raw : Int) - filtered
  let step := (delta * w).tdiv 16
  let step := if step = 0 then (if 0 < delta then 1 else if delta < 0 then -1 else 0) else step
  (filtered + step).toNat

/-! ## Volume states (R139) -/

/-- R139: down(V). -/
def downOf (c : TankCfg) (v : Nat) : VolState :=
  if v ≤ c.empty then .empty else if v ≤ c.reserve then .reserve else if v ≤ c.low then .low else .normal

/-- R139: up(V) is down(V - H); below 0 it is EMPTY as at 0 (log 38). -/
def upOf (c : TankCfg) (v : Nat) : VolState := downOf c (v - c.hyst)

/-- The rank of a volume state in rising order of concern. -/
def VolState.concern : VolState → Nat
  | .normal => 0
  | .low => 1
  | .reserve => 2
  | .empty => 3

/-- R139: the new volume state against the last one. -/
def nextVolume (c : TankCfg) (v : Nat) : Option VolState → VolState
  | none => downOf c v
  | some x =>
    if x.concern < (downOf c v).concern then downOf c v
    else if (upOf c v).concern < x.concern then upOf c v
    else x

/-! ## One tank (R135, R138 to R141) -/

/-- R140: a tank whose channel is UNREFERENCED. -/
def Tank.unreferenced (k : Tank) : Tank :=
  ({ k with state := .unreferenced, level := none, raw := none, filtered := none, lastVol := none } : Tank).withTte

/-- R140: a tank whose channel is in FAULT; the filtered volume is held, or 0 where it was absent. -/
def Tank.faulted (c : TankCfg) (count : Nat) (k : Tank) : Tank :=
  let l := levelOf c count
  ({ k with
    state := .sensorFault, level := some l, raw := some (volumeOf l c.points), filtered := some (k.filtered.getD 0),
    lastVol := none } : Tank).withTte

/-- R136 to R141: a tank whose channel is REFERENCED, seeded where `seed` says so; with no filtered volume and no seed it is
UNREFERENCED (log 37). -/
def Tank.measured (c : TankCfg) (w count : Nat) (seed : Bool) (k : Tank) : Tank :=
  let l := levelOf c count
  let raw := volumeOf l c.points
  let filtered := if seed then some raw else k.filtered.map (filterStep w raw)
  match filtered with
  | none => k.unreferenced
  | some v =>
    let st := nextVolume c v k.lastVol
    ({ k with
      state := .vol st, level := some l, raw := some raw, filtered := some v, lastVol := some st,
      seed := k.seed && !seed } : Tank).withTte

/-- The state a level channel counts as (R140). -/
def LevelChan.read (c : LevelChan) : LevelState := if c.configured then c.state else .unreferenced

/-- R135: the update of a present tank from its level channel. -/
def Tank.update (w : Nat) (c : LevelChan) (k : Tank) : Tank :=
  match k.cfg with
  | none => k
  | some cfg =>
    let k := { k with chan := c.read }
    match c.read with
    | .unreferenced => k.unreferenced
    | .fault => k.faulted cfg c.count
    | .referenced => k.measured cfg w c.count (k.seed || c.rerefPending)

/-- R135, R138: one tank of the update: the record, and the re-reference pending flag taken; an ABSENT tank is passed
over. -/
def updateTank (i : TankId) (s : State) : State :=
  let k := s.tk.get i
  if !k.present then s
  else
    let c := s.pcu.level i
    (s.setTk (s.tk.put i (k.update s.tk.weight c))).setPcu (s.pcu.setLevel i { c with rerefPending := false })

/-! ## Handing on (R135, R142, R144, R145) -/

/-- Whether a tank is EMPTY in one monitor and not in the other. -/
def emptyMoved (before now : TK) (i : TankId) : Bool :=
  ((before.get i).state == .vol .empty) != ((now.get i).state == .vol .empty)

/-- Whether a tank's state differs. -/
def stateMoved (before now : TK) : Bool := allTanks.any (fun i => (before.get i).state != (now.get i).state)

/-- R135: what has changed since `before` is handed on, in order: the T0 empty report, the foam suspensions, TANK_CHANGED,
the draw totals. -/
def handOn (before : TK) (s : State) : State :=
  let now := s.tk
  let s := if emptyMoved before now .t0 then reportT0Empty (now.t0.state == .vol .empty) s else s
  let s := if emptyMoved before now .t1 || emptyMoved before now .t2 then evaluateSuspensions s else s
  let s := if stateMoved before now then raiseAtt .tankChanged s else s
  recomputeDraws s

/-- R138: the weight of the filter. -/
def State.filterWeight (s : State) : Nat := if s.mc.still then s.par.stillWeight else s.par.movingWeight

/-- R135: the tank update timer expires. -/
def tanksUpdate (s : State) : State :=
  if s.tk.updateTimer.isNone then s
  else
    let t := s.setTk { s.tk with updateTimer := some 200, weight := s.filterWeight }
    finish s (handOn s.tk (allTanks.foldl (fun s i => updateTank i s) t))

/-- TANK_UPDATE (R135). -/
def execTankUpdate (s : State) : Host.Outcome State Fault Refusal := .next (tanksUpdate s)

/-! ## Loads -/

/-- The profile group of a tank. -/
def tankGroup : TankId → Nat
  | .t0 => 1
  | .t1 => 2
  | .t2 => 3

/-- R109: a channel's configuration loaded from a tank group; where the tank is not present, only its not being configured
is stored. -/
def LevelChan.load (ws : List Word) (c : LevelChan) : LevelChan :=
  let x := tankXMode ws
  let n := tankRefCount ws
  if !tankPresentOf ws then { c with configured := false, state := .unreferenced, driftFlag := false }
  else
    { c with
      configured := true, xmode := x, refCount := n, driftLimit := tankDriftLimit ws,
      state := if c.configured && c.xmode == x && c.refCount == n then c.state else .unreferenced }

/-- R109: loads a channel. -/
def loadChannel (i : TankId) (s : State) : State :=
  s.setPcu (s.pcu.setLevel i ((s.pcu.level i).load (s.ps.group (tankGroup i)).data))

/-- R134: a tank record loaded from its group. -/
def Tank.load (ws : List Word) (k : Tank) : Tank :=
  if tankPresentOf ws then
    { k with
      present := true, cfg := some (tankCfgOf ws), state := .unreferenced, level := none, raw := none,
      filtered := none, tte := none, lastVol := none, seed := true }
  else { Tank.absent with chan := k.chan }

/-- R134: loads a tank; the draw totals are recomputed and a change of state is handed on (R142). -/
def loadTank (i : TankId) (s : State) : State :=
  handOn s.tk (s.setTk (s.tk.put i ((s.tk.get i).load (s.ps.group (tankGroup i)).data)))

/-- R109, R134, R189 step 4: the Pulse Counting Unit and then the Tank Monitor load these tanks in turn. -/
def loadTanks (l : List TankId) (s : State) : State :=
  l.foldl (fun s i => loadTank i s) (l.foldl (fun s i => loadChannel i s) s)

end Sys2Proof.Machine
end

