-- ==== Sys2Proof/Machine/Reads.lean ====
section
/-! DEFINITION. The requests that read a block's state and change nothing: READ_RESOURCES (R56), READ_MODE (R75, R92),
READ_SPEEDS (R111), READ_GOVERNOR (R131), READ_TANK (R150), READ_PRESET_RESULT (R160). -/
namespace Sys2Proof.Machine

/-- R56: one resource. Before the first input sample a take-off's confirm input reads DISENGAGED (log 46, DESIGN CHOICE: R59 gives
it no value then). -/
def State.viewRes (s : State) (r : Res) : ResView where
  cmd := (s.res r).cmd
  conf := (s.res r).conf
  confirmInput := s.input r
  holders := (s.res r).holders
  orphan := (s.res r).orphan
  cut := if r = .ptoa ∨ r = .ptob then some (s.res r).cut else none
  ready := s.rm.ready r
  entry := s.rm.entry r

/-- R56: READ_RESOURCES. -/
def readResources (s : State) : Reply :=
  ⟨.ok, .resources ⟨s.viewRes .split, s.viewRes .ptor, s.viewRes .ptoa, s.viewRes .ptob, s.rm.queue, s.rm.shift,
    s.rm.adoption, s.rm.pumpPath⟩⟩

/-- READ_RESOURCES (R56). -/
def execReadResources (s : State) : Host.Outcome State Fault Refusal := .next (takeRead 0x10 false readResources s)

/-- The run counts of the eight inputs. -/
def MC.runs (m : MC) : Eight Nat :=
  ⟨m.deb.park.run, m.deb.neutral.run, m.deb.pumprange.run, m.deb.shroad.run, m.deb.shpump.run, m.deb.ptorOn.run,
    m.deb.ptoaOn.run, m.deb.ptobOn.run⟩

/-- R75, R92: READ_MODE. -/
def readMode (s : State) : Reply :=
  ⟨.ok, .mode {
    mode := s.mc.mode
    derived := s.mc.derived
    levels := if s.mc.inited then some s.mc.accepted else none
    runs := s.mc.runs
    split := s.mc.splitPos
    splitTimer := s.mc.splitTimer
    splitReported := s.mc.splitReported
    still := s.mc.still
    stillTimer := s.mc.stillTimer
    stationary := s.mc.sp
    motionEp := s.mc.motionEp
    parkEp := s.mc.parkEp
    parkhold := s.mc.parkhold
    range := s.mc.range
    allowed := s.allowed
    rolling := s.rolling
    graceTimer := s.mc.graceTimer
    overEp := s.mc.overEp
    overSpeed := s.mc.overSpeed
    rollLimit := s.par.rollLimit
    band := s.par.overspeedBand }⟩

/-- READ_MODE (R75). -/
def execReadMode (s : State) : Host.Outcome State Fault Refusal := .next (takeRead 0x11 false readMode s)

/-- R111: one speed channel. -/
def SpeedChan.view (c : SpeedChan) : SpeedView := ⟨c.published, c.window, c.ring.length, c.ring.sum, c.ring⟩

/-- R111: one level channel. -/
def LevelChan.view (c : LevelChan) : LevelView where
  configured := c.configured
  xmode := c.xmode
  refCount := c.refCount
  driftLimit := c.driftLimit
  count := c.count
  dir := c.dir
  state := c.state
  indexCap := c.indexCap
  priorCap := c.priorCap
  driftFlag := c.driftFlag
  faultPending := c.faultPending
  rerefPending := c.rerefPending

/-- R111: READ_SPEEDS. -/
def readSpeeds (s : State) : Reply :=
  ⟨.ok, .speeds ⟨s.pcu.eng.view, s.pcu.pump.view, s.pcu.road.view, s.pcu.engineStopped, s.pcu.stopTimer,
    s.pcu.l0.view, s.pcu.l1.view, s.pcu.l2.view⟩⟩

/-- READ_SPEEDS (R111). -/
def execReadSpeeds (s : State) : Host.Outcome State Fault Refusal := .next (takeRead 0x12 false readSpeeds s)

/-- R131: one pressure channel. -/
def PressChan.view (c : PressChan) : PressView := ⟨c.state, c.published, c.ring.length, c.ring, c.oob, c.inb⟩

/-- R131: READ_GOVERNOR. -/
def readGovernor (s : State) : Reply :=
  ⟨.ok, .governor {
    state := s.pg.state
    governing := s.pg.governing
    demand := s.pg.demand
    ceiling := s.pg.ceiling
    cPath := s.pg.cPath
    cCav := s.pg.cCav
    cSupply := s.pg.cSupply
    supplyCase := s.pg.supplyCase
    cRoll := s.pg.cRoll
    lastStep := s.pg.lastStep
    relief := s.pg.relief
    thrDuty := s.pg.thrDuty
    thrMode := s.pg.thrMode
    idle := s.par.idle
    pumpMax := s.par.pumpMax
    nextUpdate := s.pg.updateTimer
    pdis := s.pi.pdis.view
    pint := s.pi.pint.view }⟩

/-- READ_GOVERNOR (R131). -/
def execReadGovernor (s : State) : Host.Outcome State Fault Refusal := .next (takeRead 0x13 false readGovernor s)

/-- The tank of a number. -/
def tankOf (n : Nat) : Option TankId :=
  match n with
  | 0 => some .t0
  | 1 => some .t1
  | 2 => some .t2
  | _ => none

/-- R132: the role, fixed by the tank's number. -/
def roleOf : TankId → Role
  | .t0 => .water
  | _ => .foam

/-- R150: the capacity, thresholds and H of a loaded configuration. -/
def TankCfg.view (c : TankCfg) : TankCfgView := ⟨c.capacity, c.empty, c.reserve, c.low, c.hyst⟩

/-- R150: one tank. -/
def State.viewTank (s : State) (i : TankId) : TankView :=
  let k := s.tk.get i
  { role := roleOf i
    present := k.present
    state := k.state
    level := k.level
    raw := k.raw
    filtered := k.filtered
    tte := k.tte
    draw := k.draw
    lastVol := k.lastVol
    seed := k.seed
    chan := k.chan
    cfg := k.cfg.map TankCfg.view
    weight := s.tk.weight
    nextUpdate := s.tk.updateTimer
    tankvlv := s.tk.tankvlv
    foam1 := s.tk.foam1
    foam2 := s.tk.foam2 }

/-- R150: READ_TANK; a tank number over 2 is BAD_ARG. -/
def readTank (tank : Option Nat) (s : State) : Reply :=
  match tank.bind tankOf with
  | none => .of .badArg
  | some i => ⟨.ok, .tank (s.viewTank i)⟩

/-- READ_TANK (R150). -/
def execReadTank (tank : Option Nat) (s : State) : Host.Outcome State Fault Refusal :=
  .next (takeRead 0x14 false (readTank tank) s)

/-- R160: READ_PRESET_RESULT; the remaining time of the read in progress while RUNNING. -/
def readPresetResult (s : State) : Reply := ⟨.ok, .presetResult s.pe.result (s.pe.apply.map Apply.timer)⟩

/-- READ_PRESET_RESULT (R160). -/
def execReadPresetResult (s : State) : Host.Outcome State Fault Refusal :=
  .next (takeRead 0x19 false readPresetResult s)

end Sys2Proof.Machine
end

