-- ==== Sys2Proof/Machine/Store.lean ====
section
/-! DEFINITION. The Profile Store's requests (R187, R188, R190) and the completions of its write and its erase (R189,
R190). -/
namespace Sys2Proof.Machine

/-! ## Reading and locking -/

/-- Whether PROFILE requests are BUSY: before validation has completed, or while a write or an erase runs (R187). -/
def State.profileBusy (s : State) : Bool := !s.ps.validated || s.storeBusy

/-- R187: PROFILE_READ. -/
def readProfile (group : Option Nat) (s : State) : Reply :=
  if s.profileBusy then .of .busy
  else match group with
    | none => .of .badArg
    | some g =>
      if g > 11 then .of .badArg
      else ⟨.ok, .group g (s.ps.conds.getD g .bad) (s.ps.group g).data (s.ps.group g).check s.ps.validity s.ps.locked⟩

/-- PROFILE_READ (R187). -/
def execProfileRead (group : Option Nat) (s : State) : Host.Outcome State Fault Refusal :=
  .next (takeRead 0x30 false (readProfile group) s)

/-- R190: PROFILE_LOCK. -/
def serveLock (s : State) : State × Reply :=
  if s.fc.lockdown then (s, .of .lockdown)
  else if s.profileBusy then (s, .of .busy)
  else (s.setPs { s.ps with locked := true }, .of .ok)

/-- PROFILE_LOCK (R190). -/
def execProfileLock (s : State) : Host.Outcome State Fault Refusal := .next (takeRequest 0x33 false serveLock s)

/-- R190: PROFILE_UNLOCK, LOCKED while the profile is not BLANK. -/
def serveUnlock (s : State) : State × Reply :=
  if s.fc.lockdown then (s, .of .lockdown)
  else if s.profileBusy then (s, .of .busy)
  else if s.ps.validity ≠ .blank then (s, .of .locked)
  else (s.setPs { s.ps with locked := false }, .of .ok)

/-- PROFILE_UNLOCK (R190). -/
def execProfileUnlock (s : State) : Host.Outcome State Fault Refusal := .next (takeRequest 0x34 false serveUnlock s)

/-! ## Writing (R188, R189) -/

/-- R188 order 6: a slot is occupied, a resource is commanded engaged, or a shift is in flight. -/
def State.driveInUse (s : State) : Bool :=
  !s.dt.records.isEmpty || allRes.any (fun r => (s.res r).cmd) || s.rm.shift.isSome

/-- R188 order 3: the piece fits its group and its place. -/
def State.pieceFits (s : State) (p : Piece) : Bool :=
  decide (p.group ≤ 11) && decide (1 ≤ p.words.length) && decide (p.words.length ≤ 28)
    && decide (p.offset + p.words.length ≤ groupSize p.group)
    && (p.offset == 0 || (match s.ps.staging with
      | some g => g.group == p.group && p.offset == g.words.length
      | none => false))

/-- R188: the words staged once a piece is taken. -/
def State.stagedWith (s : State) (p : Piece) : List Word :=
  if p.offset = 0 then p.words
  else match s.ps.staging with
    | some g => g.words ++ p.words
    | none => p.words

/-- R189, R190: the check word of a stored group stands erased. -/
def PS.tear (p : PS) (g : Nat) : List Group :=
  p.groups.set g { p.group g with check := 0xFFFF, torn := true }

/-- R188, R189: the piece that completes a group: the check of the whole group, and the acceptance of the write. -/
def completeGroup (g : Nat) (ws : List Word) (s : State) : State × Reply :=
  match firstFailure s.ps.limits g ws with
  | some i => (s.setPs { s.ps with staging := none }, ⟨.badArg, .badWord i⟩)
  | none =>
    let data := withChecks g ws
    (s.setPs { s.ps with
      groups := s.ps.tear g, staging := none, op := some (.write g data (checkWord data) 60) }, .of .accepted)

/-- R188: the checks of a piece in order, then the staging. -/
def serveWrite (piece : Option Piece) (s : State) : State × Reply :=
  if s.fc.lockdown then (s, .of .lockdown)
  else if s.profileBusy then (s, .of .busy)
  else match piece with
    | none => (s, .of .badArg)
    | some p =>
      if !s.pieceFits p then (s, .of .badArg)
      else if s.ps.locked then (s, .of .locked)
      else if s.pe.apply.isSome then (s, .of .busy)
      else if s.driveInUse then (s, .of .notPermitted)
      else
        let ws := s.stagedWith p
        if ws.length < groupSize p.group then
          (s.setPs { s.ps with staging := some ⟨p.group, ws⟩ }, ⟨.ok, .staged ws.length⟩)
        else completeGroup p.group ws s

/-- PROFILE_WRITE (R188). -/
def execProfileWrite (piece : Option Piece) (s : State) : Host.Outcome State Fault Refusal :=
  .next (takeRequest 0x31 false (serveWrite piece) s)

/-- R189 step 3, R192 step 3: the blocks take the values of group 0 into use. -/
def useGroup0 (s : State) : State := s.setPar (paramsOf (s.ps.group 0).data)

/-- The template counts of all eight presets as stored. -/
def PS.templateCounts (p : PS) : List (Option Nat) :=
  (List.range 8).map (fun n => some (templateCountOf (p.group (4 + n)).data))

/-- The template counts of all eight presets taken (R151). -/
def takeCounts (s : State) : State := s.setPe { s.pe with counts := s.ps.templateCounts }

/-- R189 step 5: the template counts taken at a write's completion; while the profile is not VALID no preset is known
(R151, log 33). -/
def countsAfterWrite (g : Nat) (became : Bool) (s : State) : State :=
  if !s.profileValid then s
  else if became then takeCounts s
  else if 4 ≤ g then s.setPe { s.pe with
    counts := s.pe.counts.set (g - 4) (some (templateCountOf (s.ps.group g).data)) }
  else s

/-- The tank of a tank group. -/
def tankOfGroup (g : Nat) : List TankId :=
  match g with
  | 1 => [.t0]
  | 2 => [.t1]
  | 3 => [.t2]
  | _ => []

/-- R189: a write completes, in its six steps. -/
def writeDone (g : Nat) (data : List Word) (check : Word) (s : State) : State :=
  let conds := s.ps.conds.set g .good
  let became := s.ps.validity != .valid && validityOf conds == .valid
  let s := s.setPs { s.ps with
    groups := s.ps.groups.set g ⟨data, check, false⟩, conds := conds, validity := validityOf conds }
  let s := if s.profileValid && (g == 0 || became) then govNewValues (useGroup0 s) else s
  let s := loadTanks (if became then allTanks else tankOfGroup g) s
  let s := countsAfterWrite g became s
  raiseAtt .profileDone (s.setPs { s.ps with op := none })

/-- R189: the write timer expires. -/
def writeCompletes (s : State) : State :=
  match s.ps.op with
  | some (.write g data check _) => finish s (writeDone g data check s)
  | _ => s

/-- PROFILE_WRITE_COMPLETION (R189). -/
def execProfileWriteCompletion (s : State) : Host.Outcome State Fault Refusal := .next (writeCompletes s)

/-! ## Erasing (R190) -/

/-- R190: the checks of PROFILE_ERASE in order, then the acceptance. -/
def serveErase (s : State) : State × Reply :=
  if s.fc.lockdown then (s, .of .lockdown)
  else if s.profileBusy then (s, .of .busy)
  else if s.pe.apply.isSome then (s, .of .busy)
  else if s.driveInUse then (s, .of .notPermitted)
  else (s.setPs { s.ps with groups := s.ps.tear 0, staging := none, op := some (.erase 400) }, .of .accepted)

/-- PROFILE_ERASE (R190). -/
def execProfileErase (s : State) : Host.Outcome State Fault Refusal := .next (takeRequest 0x32 false serveErase s)

/-- R190: an erase completes: every group BLANK, the invalid-profile values in use, the governor OFF, no preset known. -/
def eraseDone (s : State) : State :=
  let s := s.setPs { s.ps with
    groups := PS.delivered.groups, conds := PS.delivered.conds, validity := .blank, op := none }
  let s := govOff (s.setPar invalidParams)
  raiseAtt .profileDone (s.setPe { s.pe with counts := PE.reset.counts })

/-- R190: the erase timer expires. -/
def eraseCompletes (s : State) : State :=
  match s.ps.op with
  | some (.erase _) => finish s (eraseDone s)
  | _ => s

/-- PROFILE_ERASE_COMPLETION (R190). -/
def execProfileEraseCompletion (s : State) : Host.Outcome State Fault Refusal := .next (eraseCompletes s)

end Sys2Proof.Machine
end

