-- ==== Sys2Proof/Machine/Port.lean ====
section
/-! DEFINITION. The Command Port: NOP (R175), STATUS (R181), ACK (R182), RESYNC (R183, R55), and the transactions with the
frames they carry (R173 to R178). -/
namespace Sys2Proof.Machine

/-! ## NOP, STATUS, ACK -/

/-- R175: a NOP ends its transaction and leaves the answer buffer unchanged. -/
def nopTaken (s : State) : State := if s.sys.resetActive then s else endTransaction s

/-- NOP (R175). -/
def execNop (s : State) : Host.Outcome State Fault Refusal := .next (nopTaken s)

/-- R181: STATUS. -/
def readStatus (s : State) : Reply :=
  ⟨.ok, .status s.cp.flags s.cp.mask (topCause s.cp.flags) s.mc.mode s.cp.resetKind s.cp.resync⟩

/-- STATUS (R181). -/
def execStatus (s : State) : Host.Outcome State Fault Refusal := .next (takeRead 0x20 true readStatus s)

/-- R182: the causes of a set that an ACK may clear. -/
def clearable (x : AttSet) : AttSet := { x with lockdown := false, critical := false, standard := false }

/-- R182: ACK. -/
def serveAck (body : Option AckBody) (s : State) : State × Reply :=
  match body with
  | none => (s, .of .badArg)
  | some b =>
    let t := setAttention (minusAtt s.cp.flags (clearable b.clear)) (b.mask.getD s.cp.mask) s
    (t, ⟨.ok, .attention t.cp.flags t.cp.mask⟩)

/-- ACK (R182). -/
def execAck (body : Option AckBody) (s : State) : Host.Outcome State Fault Refusal :=
  .next (takeRequest 0x21 false (serveAck body) s)

/-! ## RESYNC (R183, R55) -/

/-- R55: a shift in PREPARE goes back to the head of the queue; one in ACTUATE or SETTLE runs on. -/
def returnShift (s : State) : State :=
  match s.rm.shift with
  | some sh =>
    if sh.stage = .prepare then
      checkPumpPath (leaveSlot sh.res (s.setRm { s.rm with queue := ⟨sh.res, sh.op, true⟩ :: s.rm.queue }))
    else s
  | none => s

/-- R183: an accepted RESYNC: marked in progress, the apply abandoned, the staging discarded (R188), the shift slot closed
and the shift in flight treated. -/
def acceptResync (s : State) : State :=
  let s := s.setCp { s.cp with resync := true }
  let s := abandonApply .resync none s
  let s := s.setPs { s.ps with staging := none }
  returnShift (s.setRm { s.rm with closed := true })

/-- R183: RESYNC's checks, then the acceptance; it completes in the same event where no shift is left in flight. -/
def serveResync (s : State) : State × Reply :=
  if s.fc.lockdown then (s, .of .lockdown)
  else if s.storeBusy then (s, .of .busy)
  else (finish s (acceptResync s), .of .accepted)

/-- RESYNC (R183). -/
def execResync (s : State) : Host.Outcome State Fault Refusal := .next (takeRequest 0x24 false serveResync s)

/-! ## Transactions (R173 to R175) -/

/-- R173: CS_N falls: a transaction begins and the answer buffer's frame is shifted out. -/
def transactionStarts (s : State) : State :=
  if s.sys.resetActive || s.cp.txn != .idle then s
  else s.setCp { s.cp with txn := .active, sdo := some s.cp.answer }

/-- TRANSACTION_START (R173). -/
def execTransactionStart (s : State) : Host.Outcome State Fault Refusal := .next (transactionStarts s)

/-- The state of an outcome that is a next state; `s` otherwise. -/
def stateOf (s : State) : Host.Outcome State Fault Refusal → State
  | .next t => t
  | _ => s

/-- R175: a request handed to its owner; any other command is no request. -/
def handOver (i : Instr) (s : State) : State :=
  match i with
  | .nop => stateOf s (execNop s)
  | .openDemand st b => stateOf s (execOpen st b s)
  | .amend b => stateOf s (execAmend b s)
  | .retire d => stateOf s (execRetire d s)
  | .retireStation st => stateOf s (execRetireStation st s)
  | .query c d => stateOf s (execQuery c d s)
  | .find st c f => stateOf s (execFind st c f s)
  | .renew st d => stateOf s (execRenew st d s)
  | .readResources => stateOf s (execReadResources s)
  | .readMode => stateOf s (execReadMode s)
  | .readSpeeds => stateOf s (execReadSpeeds s)
  | .readGovernor => stateOf s (execReadGovernor s)
  | .readTank t => stateOf s (execReadTank t s)
  | .applyPreset st p => stateOf s (execApplyPreset st p s)
  | .readPresetResult => stateOf s (execReadPresetResult s)
  | .status => stateOf s (execStatus s)
  | .ack b => stateOf s (execAck b s)
  | .readFault => stateOf s (execReadFault s)
  | .ackFault x => stateOf s (execAckFault x s)
  | .resync => stateOf s (execResync s)
  | .profileRead g => stateOf s (execProfileRead g s)
  | .profileWrite p => stateOf s (execProfileWrite p s)
  | .profileErase => stateOf s (execProfileErase s)
  | .profileLock => stateOf s (execProfileLock s)
  | .profileUnlock => stateOf s (execProfileUnlock s)
  | _ => s

/-- R174, R175: what a transaction held is acted on. -/
def takeReceived (r : Received) (s : State) : State :=
  match r with
  | .nothing => endTransaction s
  | .aborted => endTransaction s
  | .badFrame echo => putAnswer echo (.of .badFrame) (endTransaction s)
  | .complete code control body ok =>
    if !ok then putAnswer code (.of .badFrame) (endTransaction s)
    else match decodeRequest code control body with
      | none => putAnswer code (.of .unknown) (endTransaction s)
      | some i => handOver i s

/-- R173, R174, R184 step 4: CS_N rises after these bits. A transaction that RESYNC's completion aborted is not executed; with
no transaction in progress nothing happens (log 9). -/
def transactionEnds (bits : List Bool) (s : State) : State :=
  match s.cp.txn with
  | .idle => s
  | .aborted => endTransaction s
  | .active => takeReceived (receive (bytesOfBits bits)) s

/-- TRANSACTION_END (R174). -/
def execTransactionEnd (bits : List Bool) (s : State) : Host.Outcome State Fault Refusal :=
  .next (transactionEnds bits s)

end Sys2Proof.Machine
end

