-- ==== Sys2Proof/Machine/Pressure.lean ====
section
/-! DEFINITION. The Pressure Inputs: conversion, scaling and sensor faults (R113 to R115). -/
namespace Sys2Proof.Machine

/-- The values of a pressure channel in use (R112). -/
structure PressCfg where
  offset : Int
  span : Nat
  lo : Nat
  hi : Nat
  deriving DecidableEq, Repr

/-- The values of PDIS in use. -/
def Params.pdis (p : Params) : PressCfg := ⟨p.pdisOffset, p.pdisSpan, p.pdisLo, p.pdisHi⟩

/-- The values of PINT in use. -/
def Params.pint (p : Params) : PressCfg := ⟨p.pintOffset, p.pintSpan, p.pintLo, p.pintHi⟩

/-- R114: the value in kPa of a ring of raw values. -/
def pressureOf (k : PressCfg) (ring : List Nat) : Int :=
  k.offset + ((ring.sum / ring.length * k.span / 4096 : Nat) : Int)

/-- R113: whether a raw value is in band. -/
def PressCfg.inBand (k : PressCfg) (raw : Nat) : Bool := decide (k.lo ≤ raw) && decide (raw ≤ k.hi)

/-- R113: the ring with a raw value as its newest entry, four at most. -/
def PressChan.entered (raw : Nat) (c : PressChan) : List Nat := (raw :: c.ring).take 4

/-- R113, R115: an in-band conversion. -/
def PressChan.good (k : PressCfg) (raw : Nat) (c : PressChan) : PressChan :=
  let ring := c.entered raw
  match c.state with
  | .fault =>
    if c.inb + 1 < 3 then { c with ring := ring, inb := c.inb + 1 }
    else { c with state := .valid, ring := ring, inb := 0, published := some (pressureOf k ring) }
  | _ => { c with state := .valid, ring := ring, oob := 0, published := some (pressureOf k ring) }

/-- R113, R115: an out-of-band conversion; the third in a row puts the channel into FAULT, its published value kept. -/
def PressChan.bad (c : PressChan) : PressChan :=
  match c.state with
  | .fault => { c with ring := [], inb := 0 }
  | _ => if c.oob + 1 < 3 then { c with oob := c.oob + 1 } else { c with state := .fault, ring := [], oob := 0, inb := 0 }

/-- R113: one conversion of a channel; a raw value is at most 4095. -/
def PressChan.convert (k : PressCfg) (raw : Nat) (c : PressChan) : PressChan :=
  let raw := min raw 4095
  if k.inBand raw then c.good k raw else c.bad

/-- R115: the report of a channel that has entered FAULT. -/
def reportPressure (before after : PressChan) (c : Cause) (s : State) : State :=
  if before.state ≠ .fault ∧ after.state = .fault then standardFault c none s else s

/-- R113: the conversion timer expires: both channels are converted. Where both enter FAULT in one conversion, PDIS reports before
PINT (log 44, DESIGN CHOICE: R113, R115 and R164 give no order). -/
def converts (pdis pint : Nat) (s : State) : State :=
  if s.pi.convTimer.isNone then s
  else
    let d := s.pi.pdis.convert s.par.pdis pdis
    let t := reportPressure s.pi.pdis d .pdisSensor (s.setPi { s.pi with pdis := d, convTimer := some 10 })
    let i := s.pi.pint.convert s.par.pint pint
    reportPressure s.pi.pint i .pintSensor (t.setPi { t.pi with pint := i })

/-- PRESSURE_CONVERSION (R113). -/
def execPressureConversion (pdis pint : Nat) (s : State) : Host.Outcome State Fault Refusal :=
  .next (converts pdis pint s)

end Sys2Proof.Machine
end

