-- ==== Sys2Proof/Machine/Shifts.lean ====
section
/-! DEFINITION. The expiries of the Resource Manager's timers: the stage timers of a shift (R38 to R43), the position drift
watch (R45) and the adoption window (R51). Each acts only while its timer runs (log 2). -/
namespace Sys2Proof.Machine

/-- R41 and R42, R43: what follows a shift's reports: the pump path, the re-evaluation of its resource, the next head
entry. -/
def afterShift (r : Res) (s : State) : State := startHead (reevaluate r (checkPumpPath s))

/-! ## DONE -/

/-- R41: a shift is DONE. -/
def shiftDone (r : Res) (op : ShiftOp) (s : State) : State :=
  let s := leaveSlot r s
  match op with
  | .engage => afterShift r (reportShiftDone r (s.setRes r { s.res r with orphan := false }))
  | .disengage => afterShift r s

/-- R40, R41: the settle timer expires. -/
def settleExpires (s : State) : State :=
  match s.rm.shift with
  | some sh => if sh.stage = .settle then finish s (shiftDone sh.res sh.op s) else s
  | none => s

/-- SETTLE_EXPIRY (R41). -/
def execSettleExpiry (s : State) : Host.Outcome State Fault Refusal := .next (settleExpires s)

/-! ## Failure in PREPARE -/

/-- R42, R43: a shift fails on its prep timeout; its output was never moved. -/
def prepFails (r : Res) (op : ShiftOp) (s : State) : State :=
  let s := leaveSlot r s
  let s := match op with
    | .engage => forfeitHolders r .prepTimeout s
    | .disengage => s
  afterShift r (standardFault .shiftPrepTimeout (some r) s)

/-- R38: the prep timer expires. -/
def prepExpires (s : State) : State :=
  match s.rm.shift with
  | some sh => if sh.stage = .prepare then finish s (prepFails sh.res sh.op s) else s
  | none => s

/-- PREP_TIMEOUT (R42, R43). -/
def execPrepTimeout (s : State) : Host.Outcome State Fault Refusal := .next (prepExpires s)

/-! ## Failure in ACTUATE -/

/-- R42: an ENGAGE fails on its confirm expiry: the output goes back, the holders are FORFEIT with NO_CONFIRM. -/
def engageUnconfirmed (r : Res) (s : State) : State :=
  let s := leaveSlot r (s.setRes r { s.res r with cmd := false })
  afterShift r (standardFault .shiftNoConfirm (some r) (forfeitHolders r .noConfirm s))

/-- R43: a DISENGAGE fails on its confirm expiry: SPLIT becomes stuck unless confirmed ROAD and is a critical fault, a
take-off is a standard one; the command stays. -/
def disengageUnconfirmed (r : Res) (s : State) : State :=
  let s := leaveSlot r s
  match r with
  | .split =>
    let s := if (s.res .split).conf = .disengaged then s else s.setRm { s.rm with stuck := true }
    afterShift r (criticalFault .splitStuck (some .split) s)
  | _ => afterShift r (standardFault .ptoLost (some r) s)

/-- R39: the confirm one-shot expires. -/
def confirmExpires (s : State) : State :=
  match s.rm.shift with
  | some sh =>
    if sh.stage = .actuate then
      finish s (match sh.op with
        | .engage => engageUnconfirmed sh.res s
        | .disengage => disengageUnconfirmed sh.res s)
    else s
  | none => s

/-- CONFIRM_EXPIRY (R42, R43). -/
def execConfirmExpiry (s : State) : Host.Outcome State Fault Refusal := .next (confirmExpires s)

/-! ## Drift and adoption -/

/-- R45: what an armed drift watch does when its timer expires. -/
def driftReports (r : Res) (s : State) : State :=
  match r with
  | .split => criticalFault .splitLost (some .split) s
  | _ =>
    standardFault .ptoLost (some r) (if (s.res r).cmd then forfeitHolders r .pathLost s else s)

/-- R45: a drift timer expires: the watch is disarmed and reports. -/
def driftExpires (r : Res) (s : State) : State :=
  if (s.res r).driftTimer.isNone then s
  else
    let armed := (s.res r).driftArmed
    let t := s.setRes r { s.res r with driftTimer := none, driftArmed := false }
    finish s (if armed then driftReports r t else t)

/-- DRIFT_EXPIRY (R45). -/
def execDriftExpiry (res : Res) (s : State) : Host.Outcome State Fault Refusal := .next (driftExpires res s)

/-- R51, R52: an orphan loses its flag and gets a DISENGAGE entry. -/
def releaseOrphan (r : Res) (s : State) : State :=
  if (s.res r).orphan then appendEntry r .disengage (s.setRes r { s.res r with orphan := false }) else s

/-- R51: the adoption window expires. -/
def adoptionExpires (s : State) : State :=
  if s.rm.adoption.isNone then s
  else finish s (allRes.foldl (fun s r => releaseOrphan r s) (s.setRm { s.rm with adoption := none }))

/-- ADOPTION_WINDOW_EXPIRY (R51). -/
def execAdoptionWindowExpiry (s : State) : Host.Outcome State Fault Refusal := .next (adoptionExpires s)

end Sys2Proof.Machine
end

