-- ==== Sys2Proof/Machine/Startup.lean ====
section
/-! DEFINITION. The resets (R191 and the reset rule of every chapter), the output lines, and start-up (R192). -/
namespace Sys2Proof.Machine
open Sys2Proof.Config

/-! ## Reset (R191) -/

/-- R191: the reset kind recorded when a cause of kind `k` overlaps a reset of kind `old`: COLD over POWER over PIN. -/
def ResetKind.over (k old : ResetKind) : ResetKind :=
  match k, old with
  | .cold, _ => .cold
  | _, .cold => .cold
  | .power, _ => .power
  | _, .power => .power
  | .pin, .pin => .pin

/-- The kind a reset cause records, over the kind of a reset that already lasts (R191). -/
def State.kindOf (s : State) (k : ResetKind) : ResetKind :=
  if s.sys.resetActive then k.over s.cp.resetKind else k

/-- R189: the data words of a group whose write was stopped: each word new or old as the free constant says (log 23). -/
def partlyWritten (n : Nat) (old new : List Word) : List Word :=
  (List.range old.length).map (fun i => if wordWritten n i then wordAt new i else wordAt old i)

/-- R186, R188 to R190, R192: the store when a reset begins: the groups, the conditions and the lock flag kept, a write or
an erase stopped, the staging discarded, validation not done. -/
def PS.stopped (n : Nat) (p : PS) : PS :=
  let groups := match p.op with
    | some (.write g data _ _) => p.groups.set g { p.group g with data := partlyWritten n (p.group g).data data }
    | _ => p.groups
  { p with groups := groups, validity := .invalid, staging := none, op := none, validationTimer := none,
           validated := false }

/-- A reset begins: every block takes its reset values, with the level channels as given (R3, R49, R59, R87, R99, R116,
R118, R149, R152, R161, R179, R191); the drive outputs follow the lines. -/
def resetBlocks (k : ResetKind) (l0 l1 l2 : LevelChan) (vmain : Bool) (s : State) : State where
  sys := { s.sys with resetActive := true, vmain := vmain, free := s.sys.free + 1 }
  par := invalidParams
  cp := CP.reset (s.kindOf k)
  dt := DT.reset
  rm := RM.reset s.sys.lines
  mc := MC.reset
  pcu := PCU.reset l0 l1 l2
  pi := PI.reset
  pg := PG.reset invalidParams
  tk := TK.reset
  pe := PE.reset
  fc := FC.reset
  ps := s.ps.stopped s.sys.free
  pending := s.pending

/-- COLD_RESET (R191, R110): the level channels are reset with the rest. -/
def coldResets (s : State) : State :=
  resetBlocks .cold LevelChan.reset LevelChan.reset LevelChan.reset s.sys.vmain s

/-- COLD_RESET (R191). -/
def execColdReset (s : State) : Host.Outcome State Fault Refusal := .next (coldResets s)

/-- R191: the kind a warm reset's cause records. -/
def causeKind : WarmCause → ResetKind
  | .powerUp => .power
  | .lowSupply => .power
  | .supplyOff => .power
  | .pin => .pin

/-- R191: whether VMAIN is on after a warm reset's cause: a fall below 8.0 V leaves it on, so that the outputs are driven from the
moment that reset begins, until VMAIN goes off (log 16). -/
def vmainAfter (c : WarmCause) (v : Bool) : Bool :=
  match c with
  | .powerUp => true
  | .lowSupply => v
  | .supplyOff => false
  | .pin => v

/-- WARM_RESET (R191, R110): the level channels are left as they were. -/
def warmResets (c : WarmCause) (s : State) : State :=
  resetBlocks (causeKind c) s.pcu.l0 s.pcu.l1 s.pcu.l2 (vmainAfter c s.sys.vmain) s

/-- WARM_RESET (R191). -/
def execWarmReset (cause : WarmCause) (s : State) : Host.Outcome State Fault Refusal := .next (warmResets cause s)

/-- R192 stage 1: the last reset cause goes and the periodic timers and the stillness timer start. -/
def resetEnds (s : State) : State :=
  if !s.sys.resetActive then s
  else
    let s := s.setSys { s.sys with resetActive := false, vmain := true }
    let s := s.setMc { s.mc with sampleTimer := some 5, stillTimer := some 1000 }
    let s := s.setPcu { s.pcu with windowTimer := some 100 }
    let s := s.setPi { s.pi with convTimer := some 10 }
    let s := s.setPg { s.pg with updateTimer := some 100 }
    s.setTk { s.tk with updateTimer := some 200 }

/-- RESET_END (R192). -/
def execResetEnd (s : State) : Host.Outcome State Fault Refusal := .next (resetEnds s)

/-! ## The output lines -/

/-- The output lines of 0.6 other than SDO: SHIFT at PUMP and the take-offs engaged are true, RANGE and THRMODE are two lines
each (R69, R129), THR is a duty in per mille (R128). -/
structure OutputLines where
  shift : Bool
  ptor : Bool
  ptoa : Bool
  ptob : Bool
  parkhold : Bool
  range : Bool × Bool
  thr : Int
  thrMode : Bool × Bool
  tankvlv : Bool
  foam1 : Bool
  foam2 : Bool
  attn : Bool
  deriving DecidableEq, Repr

/-- What the part drives on its output lines; nothing while VMAIN is off (R191, log 16). -/
def State.outputLines (s : State) : Option OutputLines :=
  if s.sys.vmain then
    some {
      shift := s.rm.split.cmd
      ptor := s.rm.ptor.cmd
      ptoa := s.rm.ptoa.cmd
      ptob := s.rm.ptob.cmd
      parkhold := s.mc.parkhold
      range := rangeLines s.mc.range
      thr := s.pg.thrDuty
      thrMode := thrModeLines s.pg.thrMode
      tankvlv := s.tk.tankvlv
      foam1 := s.tk.foam1
      foam2 := s.tk.foam2
      attn := s.cp.attn }
  else none

/-! ## Validation (R192 stage 3) -/

/-- R192 steps 1 and 2: the conditions and the validity from the words in the store; an INVALID profile is a standard
fault. -/
def validateStore (s : State) : State :=
  let conds := s.ps.storedConds
  let s := s.setPs { s.ps with
    conds := conds, validity := validityOf conds, validationTimer := none, validated := true }
  if s.ps.validity = .invalid then standardFault .profileBad none s else s

/-- R192 step 3: a VALID profile comes into use. -/
def takeProfile (s : State) : State :=
  if s.profileValid then takeCounts (loadTanks allTanks (govValidated (useGroup0 s))) else s

/-- R108, R192 step 4: a channel's faults and drifts standing from before the reset are reported (log 30). -/
def reportLevel (i : TankId) (s : State) : State :=
  let c := s.pcu.level i
  let s := if c.configured && (c.state == .fault || c.faultPending) then
      standardFault .levelSensor none (s.setPcu (s.pcu.setLevel i { c with faultPending := false }))
    else s
  let c := s.pcu.level i
  if c.driftFlag then
    standardFault .levelDrift none (s.setPcu (s.pcu.setLevel i { c with driftFlag := false }))
  else s

/-- R49: orphan marking of a resource found at `p`, with the command it gets; in lockdown the command stays and nothing is
marked (R54, log 6). -/
def markOrphan (lockdown : Bool) (p : Pos) (allowed : Bool) (x : ResRec) : ResRec :=
  if lockdown then { x with conf := p }
  else { x with conf := p, cmd := p == Pos.engaged && allowed, orphan := p == Pos.engaged && allowed }

/-- R49, R192 step 5: the orphans are marked from the debounced confirms, the adoption window starts if any is, and the
pump path takes its value without a report (R30). -/
def markOrphans (s : State) : State :=
  let l := s.fc.lockdown
  let m := { s.rm with
    split := markOrphan l (s.input .split) true s.rm.split,
    ptor := markOrphan l (s.input .ptor) (s.input .split != Pos.engaged) s.rm.ptor,
    ptoa := markOrphan l (s.input .ptoa) true s.rm.ptoa,
    ptob := markOrphan l (s.input .ptob) true s.rm.ptob }
  let any := m.split.orphan || m.ptor.orphan || m.ptoa.orphan || m.ptob.orphan
  s.setRm { m with adoption := if any then some (s.par.adoptionWindow * 1000) else none, pumpPath := m.pathEngaged }

/-- R192 stage 3: the validation timer expires. -/
def validates (s : State) : State :=
  if s.ps.validationTimer.isNone then s
  else
    let t := takeProfile (validateStore s)
    let t := markOrphans (allTanks.foldl (fun s i => reportLevel i s) t)
    finish s (deriveAndWatch t)

/-- VALIDATION_COMPLETION (R192). -/
def execValidationCompletion (s : State) : Host.Outcome State Fault Refusal := .next (validates s)

end Sys2Proof.Machine
end

