-- ==== Sys2Proof/Machine/Dispatch.lean ====
section
/-! DEFINITION. One arm per command of spec/opcode_table.json, each one call of its meaning. -/
namespace Sys2Proof.Machine

def exec (i : Instr) (s : State) : Host.Outcome State Fault Refusal :=
  match i with
  | .transactionStart => Sys2Proof.Machine.execTransactionStart s
  | .transactionEnd bits => Sys2Proof.Machine.execTransactionEnd bits s
  | .nop => Sys2Proof.Machine.execNop s
  | .openDemand station body => Sys2Proof.Machine.execOpen station body s
  | .amend body => Sys2Proof.Machine.execAmend body s
  | .retire desc => Sys2Proof.Machine.execRetire desc s
  | .retireStation station => Sys2Proof.Machine.execRetireStation station s
  | .query clear desc => Sys2Proof.Machine.execQuery clear desc s
  | .find station clear filter => Sys2Proof.Machine.execFind station clear filter s
  | .renew station desc => Sys2Proof.Machine.execRenew station desc s
  | .readResources => Sys2Proof.Machine.execReadResources s
  | .readMode => Sys2Proof.Machine.execReadMode s
  | .readSpeeds => Sys2Proof.Machine.execReadSpeeds s
  | .readGovernor => Sys2Proof.Machine.execReadGovernor s
  | .readTank tank => Sys2Proof.Machine.execReadTank tank s
  | .applyPreset station preset => Sys2Proof.Machine.execApplyPreset station preset s
  | .readPresetResult => Sys2Proof.Machine.execReadPresetResult s
  | .status => Sys2Proof.Machine.execStatus s
  | .ack body => Sys2Proof.Machine.execAck body s
  | .readFault => Sys2Proof.Machine.execReadFault s
  | .ackFault slot => Sys2Proof.Machine.execAckFault slot s
  | .resync => Sys2Proof.Machine.execResync s
  | .profileRead group => Sys2Proof.Machine.execProfileRead group s
  | .profileWrite piece => Sys2Proof.Machine.execProfileWrite piece s
  | .profileErase => Sys2Proof.Machine.execProfileErase s
  | .profileLock => Sys2Proof.Machine.execProfileLock s
  | .profileUnlock => Sys2Proof.Machine.execProfileUnlock s
  | .coldReset => Sys2Proof.Machine.execColdReset s
  | .warmReset cause => Sys2Proof.Machine.execWarmReset cause s
  | .resetEnd => Sys2Proof.Machine.execResetEnd s
  | .inputSample levels => Sys2Proof.Machine.execInputSample levels s
  | .stillnessExpiry => Sys2Proof.Machine.execStillnessExpiry s
  | .splitWatchExpiry => Sys2Proof.Machine.execSplitWatchExpiry s
  | .pulseArrival channel => Sys2Proof.Machine.execPulseArrival channel s
  | .engineStopExpiry => Sys2Proof.Machine.execEngineStopExpiry s
  | .speedWindow => Sys2Proof.Machine.execSpeedWindow s
  | .graceExpiry => Sys2Proof.Machine.execGraceExpiry s
  | .slipExpiry => Sys2Proof.Machine.execSlipExpiry s
  | .rearmExpiry => Sys2Proof.Machine.execRearmExpiry s
  | .levelSample channel a b z markFirst => Sys2Proof.Machine.execLevelSample channel a b z markFirst s
  | .pressureConversion pdis pint => Sys2Proof.Machine.execPressureConversion pdis pint s
  | .governorUpdate => Sys2Proof.Machine.execGovernorUpdate s
  | .tankUpdate => Sys2Proof.Machine.execTankUpdate s
  | .prepTimeout => Sys2Proof.Machine.execPrepTimeout s
  | .confirmExpiry => Sys2Proof.Machine.execConfirmExpiry s
  | .settleExpiry => Sys2Proof.Machine.execSettleExpiry s
  | .driftExpiry res => Sys2Proof.Machine.execDriftExpiry res s
  | .adoptionWindowExpiry => Sys2Proof.Machine.execAdoptionWindowExpiry s
  | .leaseExpiry slot => Sys2Proof.Machine.execLeaseExpiry slot s
  | .templateReadCompletion => Sys2Proof.Machine.execTemplateReadCompletion s
  | .profileWriteCompletion => Sys2Proof.Machine.execProfileWriteCompletion s
  | .profileEraseCompletion => Sys2Proof.Machine.execProfileEraseCompletion s
  | .validationCompletion => Sys2Proof.Machine.execValidationCompletion s
  | .driveOutputsFollowLines levels => Sys2Proof.Machine.execDriveOutputsFollowLines levels s

end Sys2Proof.Machine
end

