-- ==== Sys2Proof/Safety.lean ====
section
/-! DEFINITION. What counts as a safe state, in the terms the statements use: the promises of the whole part that no command
may break, the states in which a request is served, the states in which the end of an event finds nothing to do, and the contents of
a group that a write's checks let pass. -/
namespace Sys2Proof.Machine

/-! ## Requests -/

/-- A request is executed by its owner: no reset lasts (R179), the transaction was not taken as aborted (R184), no RESYNC
is in progress (R175). -/
abbrev Serving (s : State) : Prop :=
  s.sys.resetActive = false ∧ s.cp.txn ≠ .aborted ∧ s.cp.resync = false

/-- The state whose only difference is that the request's transaction has ended and this answer stands in the answer
buffer (R175, R176). -/
def answered (code : Byte) (result : Result) (body : Body) (s : State) : State :=
  { s with cp := { s.cp with txn := .idle, sdo := none, answer := ⟨code, result, body⟩ } }

/-- The code of a request (R178); none for a command that is no request. -/
def requestCode : Instr → Option Byte
  | .nop => some 0x00
  | .openDemand _ _ => some 0x01
  | .amend _ => some 0x02
  | .retire _ => some 0x03
  | .retireStation _ => some 0x04
  | .query _ _ => some 0x05
  | .find _ _ _ => some 0x06
  | .renew _ _ => some 0x07
  | .readResources => some 0x10
  | .readMode => some 0x11
  | .readSpeeds => some 0x12
  | .readGovernor => some 0x13
  | .readTank _ => some 0x14
  | .applyPreset _ _ => some 0x18
  | .readPresetResult => some 0x19
  | .status => some 0x20
  | .ack _ => some 0x21
  | .readFault => some 0x22
  | .ackFault _ => some 0x23
  | .resync => some 0x24
  | .profileRead _ => some 0x30
  | .profileWrite _ => some 0x31
  | .profileErase => some 0x32
  | .profileLock => some 0x33
  | .profileUnlock => some 0x34
  | .transactionStart => none
  | .transactionEnd _ => none
  | .coldReset => none
  | .warmReset _ => none
  | .resetEnd => none
  | .inputSample _ => none
  | .stillnessExpiry => none
  | .splitWatchExpiry => none
  | .pulseArrival _ => none
  | .engineStopExpiry => none
  | .speedWindow => none
  | .graceExpiry => none
  | .slipExpiry => none
  | .rearmExpiry => none
  | .levelSample _ _ _ _ _ => none
  | .pressureConversion _ _ => none
  | .governorUpdate => none
  | .tankUpdate => none
  | .prepTimeout => none
  | .confirmExpiry => none
  | .settleExpiry => none
  | .driftExpiry _ => none
  | .adoptionWindowExpiry => none
  | .leaseExpiry _ => none
  | .templateReadCompletion => none
  | .profileWriteCompletion => none
  | .profileEraseCompletion => none
  | .validationCompletion => none
  | .driveOutputsFollowLines _ => none

/-- The blocks an accepted request about one record leaves alone: everything but the table, the Command Port, the governor
and the tanks' draws. -/
abbrev OnlyTableMoves (s t : State) : Prop :=
  t.sys = s.sys ∧ t.par = s.par ∧ t.rm = s.rm ∧ t.mc = s.mc ∧ t.pcu = s.pcu ∧ t.pi = s.pi ∧ t.pe = s.pe ∧ t.fc = s.fc
    ∧ t.ps = s.ps ∧ t.pending = s.pending

/-- The blocks that a captured standard fault leaves alone: everything but the Resource Manager, whose own rule brought it, the
Command Port and the Fault Capture Unit. -/
abbrev OnlyWatchMoves (s t : State) : Prop :=
  t.sys = s.sys ∧ t.par = s.par ∧ t.dt = s.dt ∧ t.mc = s.mc ∧ t.pcu = s.pcu ∧ t.pi = s.pi ∧ t.pg = s.pg ∧ t.tk = s.tk
    ∧ t.pe = s.pe ∧ t.ps = s.ps ∧ t.pending = s.pending

/-- Every slot but this one stands as it was. -/
abbrev OtherSlotsStand (i : Nat) (s t : State) : Prop := ∀ j, j ≠ i → t.dt.slot j = s.dt.slot j

/-! ## Nothing left to follow -/

/-- The mode, stationary pumping and the pumping watches stand as their rules give them (R66, R71 to R73, R84). -/
abbrev PumpingSettled (s : State) : Prop :=
  s.mc.derived = true →
    s.mc.mode = s.modeOf ∧ s.mc.sp = s.stationary ∧ s.mc.parkEp = (s.mc.sp && !s.mc.accepted.park)
      ∧ (s.mc.motionEp = true → s.mc.sp = true) ∧ (s.mc.graceTimer.isSome = true → s.rolling = true)

/-- The split position watch has taken notice of its condition (R62). -/
abbrev SplitWatchSettled (s : State) : Prop :=
  s.mc.derived = true →
    if s.splitCondition = true then s.mc.splitTimer.isSome = true ∨ s.mc.splitReported = true
    else s.mc.splitTimer = none ∧ s.mc.splitReported = false

/-- The drift watches have taken notice of their conditions (R45). -/
abbrev DriftWatchesSettled (s : State) : Prop :=
  s.ps.validated = true →
    ∀ r ∈ allRes,
      if s.driftCondition r = true then (s.res r).driftTimer.isSome = true ∨ (s.res r).driftArmed = false
      else (s.res r).driftTimer = none ∧ (s.res r).driftArmed = true

/-- The end of an event finds nothing to do: the mode and the watches are settled, and no RESYNC waits to complete
(R183). Every event ends in such a state unless its own rule says otherwise. -/
abbrev AtRest (s : State) : Prop :=
  PumpingSettled s ∧ SplitWatchSettled s ∧ DriftWatchesSettled s ∧ (s.cp.resync = true → s.rm.shift.isSome = true)

/-! ## Draws and valves -/

/-- The flow a record takes from T0 (R143). -/
def waterOf (r : Rec) : Nat :=
  match r.state, r.demand with
  | .active, .discharge _ .tank flow _ => flow
  | _, _ => 0

/-- The concentrate a record takes from a foam tank (R143). -/
def concentrateOf (t : FoamTank) (r : Rec) : Nat :=
  match r.state, r.demand with
  | .active, .discharge _ _ flow (some f) => if f.tank = t ∧ f.susp = .clear then flow * f.ratio / 1000 else 0
  | _, _ => 0

/-- The draw total of a tank whose records take these flows; an ABSENT tank's is 0 (R132, R143). -/
def totalOf (s : State) (k : Tank) (f : Rec → Nat) : Nat := if k.state = .absent then 0 else (s.dt.records.map f).sum

/-- The draw totals of the three tanks are those of the table's records (R143), and TANKVLV (R146), FOAM1 and FOAM2 (R147)
stand as the pump path, the records, the tanks and the lockdown flag give them. -/
abbrev DrawsAgree (s : State) : Prop :=
  s.tk.t0.draw = totalOf s s.tk.t0 waterOf ∧ s.tk.t1.draw = totalOf s s.tk.t1 (concentrateOf .t1)
    ∧ s.tk.t2.draw = totalOf s s.tk.t2 (concentrateOf .t2)
    ∧ (s.tk.tankvlv = true ↔ s.rm.pumpPath = true ∧ (∃ r ∈ s.dt.records, r.state = .active ∧ r.fromTank = true)
        ∧ s.tk.t0.state ≠ .vol .empty ∧ s.fc.lockdown = false)
    ∧ (s.tk.foam1 = true ↔ 0 < s.tk.t1.draw ∧ s.fc.lockdown = false)
    ∧ (s.tk.foam2 = true ↔ 0 < s.tk.t2.draw ∧ s.fc.lockdown = false)

/-- A foam part's suspension by the rule of R145: no foam drive while PTOA is not confirmed ENGAGED, then an EMPTY tank. -/
def suspensionBy (s : State) (f : FoamTank) : FoamSusp :=
  if s.rm.ptoa.conf ≠ .engaged then .noFoamDrive
  else if (match f with
    | .t1 => s.tk.t1.state
    | .t2 => s.tk.t2.state) = .vol .empty then .foamEmpty
  else .clear

/-! ## Promises of the whole part -/

/-- SHIFT and PTOR never drive their engaged positions together (R37, R191). -/
abbrev NeverBothDrives (s : State) : Prop := ¬(s.rm.split.cmd = true ∧ s.rm.ptor.cmd = true)

/-- ATTN stands as R180 gives it from the flags and the mask. -/
abbrev AttnAgrees (s : State) : Prop := s.cp.attn = attnLevel s.cp.flags s.cp.mask

/-- PARKHOLD and RANGE stand as R69 gives them for the mode. -/
abbrev LockoutsAgree (s : State) : Prop := s.mc.parkhold = parkholdOf s.mc.mode ∧ s.mc.range = rangeOf s.mc.mode

/-- From its first derivation on the mode is the one R66 gives. -/
abbrev ModeAgrees (s : State) : Prop := s.mc.derived = true → s.mc.mode = s.modeOf

/-- A governor that is OFF carries no throttle authority; in lockdown it is OFF, every record is FORFEIT, no entry is
queued, no shift is in flight and no apply is in flight (R25, R54, R119, R129, R157). -/
abbrev LockdownHolds (s : State) : Prop :=
  (s.pg.state = .off → s.pg.thrMode = .off)
    ∧ (s.fc.lockdown = true →
      s.pg.state = .off ∧ (∀ r ∈ s.dt.records, r.isForfeit = true) ∧ s.rm.queue = [] ∧ s.rm.shift = none
        ∧ s.pe.apply = none)

/-- The table has its 24 slots, each with a generation of 0 to 15 (R1). -/
abbrev TableShape (s : State) : Prop := s.dt.slots.length = 24 ∧ ∀ x ∈ s.dt.slots, x.gen < 16

/-- A non-FORFEIT record of a kind stands in the table. -/
def DT.holdsKind (t : DT) (k : Kind) : Prop := ∃ r ∈ t.records, r.demand.kind = k ∧ r.isForfeit = false

/-- No two non-FORFEIT DISCHARGE records name the same outlet (R10). -/
def OutletsDiffer (s : State) : Prop :=
  ∀ i j r q o, i ≠ j → (s.dt.slot i).record = some r → (s.dt.slot j).record = some q → r.isForfeit = false →
    q.isForfeit = false → (∃ src f p, r.demand = .discharge o src f p) → ¬∃ src f p, q.demand = .discharge o src f p

/-- The table never holds non-FORFEIT records of both pump kinds (R10). -/
def OnePumpKind (s : State) : Prop := ¬(s.dt.holdsKind .pumpStat ∧ s.dt.holdsKind .pumpRoll)

/-- The store has its twelve groups and conditions, and a write in progress names one of them (R186, R188); while a write or an erase
runs the table holds no record, no apply is in flight (R188 orders 5 and 6, R10, R153) and no RESYNC is in progress (R175, R183). -/
abbrev StoreShape (s : State) : Prop :=
  s.ps.groups.length = 12 ∧ s.ps.conds.length = 12 ∧ (∀ g data check n, s.ps.op = some (.write g data check n) → g < 12)
    ∧ (s.ps.op.isSome = true → s.dt.records = [] ∧ s.pe.apply = none ∧ s.cp.resync = false)

/-- The shift slot is closed exactly while a RESYNC is in progress (R55, R183, R184), and one that is in progress waits on a shift in
ACTUATE or SETTLE, outside lockdown and with its apply abandoned (R183, R185). -/
abbrev ResyncWaits (s : State) : Prop :=
  s.rm.closed = s.cp.resync
    ∧ (s.cp.resync = true → s.fc.lockdown = false ∧ s.pe.apply = none
      ∧ (s.rm.shift.map Shift.stage = some .actuate ∨ s.rm.shift.map Shift.stage = some .settle))

/-- Where the lockdown flag is set the mode is LOCKDOWN from its derivation on (R66, R167). -/
abbrev LockdownMode (s : State) : Prop := s.fc.lockdown = true → s.mc.derived = true → s.mc.mode = .lockdown

/-! ## The contents that a PROFILE_WRITE's checks let pass (R188) -/

/-- Every value of group 0 lies in its range (R4, R29, R57, R76, R93, R112, R117, R133), the orders hold (R76, R112, R117), and a word
that no value fills is 0 (R186). The words of the values are free (log 18). -/
def Group0Passes (ws : List Word) : Prop :=
  let word : Config.Param → Word := fun p => wordAt ws (Config.paramWord p).val
  let v : Config.Param → Nat := fun p => (word p).toNat
  let signed : Config.Param → Int := fun p => (word p).toInt
  let within : Config.Param → Nat → Nat → Prop := fun p lo hi => lo ≤ v p ∧ v p ≤ hi
  let governed : Config.Param → Prop := fun p => within p (v .idle) (v .pumpMax)
  within .maxPressure 200 4000
  ∧ within .engageLimit 500 1500 ∧ within .prepTimeout 1 30 ∧ within .confirmTime 200 5000 ∧ within .settleTime 50 1000
  ∧ within .adoptionWindow 5 120 ∧ within .slipTolerance 2 25 ∧ within .ratioNum 1 1000 ∧ within .ratioDen 1 1000
  ∧ within .cutoutSpeed 10 300
  ∧ (Config.yesNoCode (word .roadPermittedA)).isSome = true ∧ (Config.yesNoCode (word .roadPermittedB)).isSome = true
  ∧ (Config.retainCode (word .retainA)).isSome = true ∧ (Config.retainCode (word .retainB)).isSome = true
  ∧ within .debounce 2 20 ∧ within .stillnessTime 800 3000 ∧ within .motionTolerance 0 20
  ∧ within .leasePeriod 500 5000 ∧ within .rollLimit 50 600 ∧ within .overspeedGrace 200 5000 ∧ within .overspeedBand 10 100
  ∧ governed .rollFloorMax ∧ v .overspeedBand < v .rollLimit
  ∧ within .enginePulses 1 250 ∧ within .pumpPulses 1 250 ∧ within .roadPulses 1000 30000
  ∧ (-100 ≤ signed .pdisOffset ∧ signed .pdisOffset ≤ 0) ∧ within .pdisSpan 500 4000 ∧ within .pdisLo 0 1000
  ∧ within .pdisHi 3000 4095 ∧ v .pdisLo < v .pdisHi
  ∧ (-100 ≤ signed .pintOffset ∧ signed .pintOffset ≤ 0) ∧ within .pintSpan 500 4000 ∧ within .pintLo 0 1000
  ∧ within .pintHi 3000 4095 ∧ v .pintLo < v .pintHi
  ∧ within .idle 500 1000 ∧ within .pumpMax 1200 2800 ∧ v .idle < v .pumpMax ∧ within .gain 1 255 ∧ within .maxStep 10 200
  ∧ governed .noFlowCeiling ∧ governed .reserveCeiling ∧ (-100 ≤ signed .intakeFloor ∧ signed .intakeFloor ≤ 200)
  ∧ within .recoveryBand 5 200 ∧ within .retreat 10 500 ∧ within .recovery 5 200 ∧ within .reliefLimit 500 4000
  ∧ v .maxPressure < v .reliefLimit ∧ within .stillWeight 1 16 ∧ within .movingWeight 1 16
  ∧ ∀ i < 48, (∀ p : Config.Param, (Config.paramWord p).val ≠ i) → wordAt ws i = 0

/-- The fields of a tank's group 1 to 3, in the order R186 lists them (log 19): the present flag and the role for any tank, and for a
present one the ranges and orders of R133 and of the level channel (R100, R102, R109), and 0 beyond its points (R186). -/
def TankGroupPasses (g : Nat) (ws : List Word) : Prop :=
  let v : Nat → Nat := fun i => (wordAt ws i).toNat
  let within : Nat → Nat → Nat → Prop := fun i lo hi => lo ≤ v i ∧ v i ≤ hi
  let points := v 8
  let capacity := v (25 + points - 1)
  (Config.yesNoCode (wordAt ws 0)).isSome = true
  ∧ Config.roleCode (wordAt ws 1) = some (if g = 1 then .water else .foam)
  ∧ (Config.yesNoCode (wordAt ws 0) = some true →
    (Config.xmodeCode (wordAt ws 2)).isSome = true ∧ within 4 1 65534 ∧ within 5 1 1000 ∧ within 6 1 1000 ∧ within 7 100 4000
    ∧ within 8 2 16 ∧ v 9 = 0
    ∧ (∀ i < points, v (9 + i) ≤ 4000 ∧ v (25 + i) ≤ 60000
        ∧ (0 < i → v (9 + i - 1) < v (9 + i) ∧ v (25 + i - 1) ≤ v (25 + i)))
    ∧ (∀ i, points ≤ i → i < 16 → wordAt ws (9 + i) = 0 ∧ wordAt ws (25 + i) = 0)
    ∧ 1 ≤ capacity ∧ v 41 < v 42 ∧ v 42 < v 43 ∧ v 43 ≤ capacity ∧ v 43 ≤ 60000 ∧ v 44 ≤ 2000)

/-- A template count of 0 to 6, each template's fields within the ranges of R151 and R4 under these limits, and 0 in the words that no
field of a template fills and in the templates beyond the count (R186). The places of the fields are free (log 20). -/
def PresetGroupPasses (lim : Limits) (ws : List Word) : Prop :=
  let count := (wordAt ws 0).toNat
  let setpoint : Option GovMode → Nat → Prop := fun g sp =>
    (g = some .pressure ∧ sp ≤ lim.maxPressure) ∨ (g = some .speed ∧ lim.idle ≤ sp ∧ sp ≤ lim.pumpMax)
  count ≤ 6 ∧ ∀ k < 6,
    if k < count then
      let p := templateRead (templateAt ws k)
      p.1 ≤ 6
      ∧ (match p.2 with
        | .malformed => False
        | .pumpStat g sp => setpoint g sp
        | .pumpRoll g sp => setpoint g sp
        | .aux x => x.isSome = true
        | .discharge o src flow foam => o ≤ 7 ∧ src.isSome = true ∧ flow ≤ 10000
          ∧ ∀ f, foam = some f → (f.tank = 1 ∨ f.tank = 2) ∧ 1 ≤ f.ratio ∧ f.ratio ≤ 100)
      ∧ ∀ j ∈ templateUnfilled (templateAt ws k), wordAt ws (1 + 6 * k + j.val) = 0
    else ∀ j < 6, wordAt ws (1 + 6 * k + j) = 0

/-- The contents of a whole group that pass R188's checks. -/
def GroupPasses (lim : Limits) (g : Nat) (ws : List Word) : Prop :=
  if g = 0 then Group0Passes ws else if g ≤ 3 then TankGroupPasses g ws else PresetGroupPasses lim ws

end Sys2Proof.Machine
end

