-- ==== Sys2Proof/Certificates/Slice0/Obligations.lean ====
section
/-! DEFINITION. The statements for the provers. Each names the rule of spec/ it formalises; one that rests on a choice of the
model says so and names the log entry. -/
open Sys2Proof Sys2Proof.Machine

/-! ## Step and time -/

/-- The block's own form: a step takes the command at the front of the queue and executes it with the queue's rest. -/
def Obligations.StepRunsFrontCommand : Prop :=
  ∀ (c : Instr) (rest : List Instr) (s : State), step (s.setPending (c :: rest)) = exec c (s.setPending rest)

/-- The model's choice (log 1): with no command waiting one millisecond passes. Every running timer counts down by one: the mode
controller's, the counters', the conversions', the governor's, the tanks', the drift, stage, adoption, slip and re-arm timers, the
leases, the apply's read timer, the store operation's and the validation timer. The marks of an expiry that a request or a pulse
has overtaken are over (log 2). Nothing else moves. -/
def Obligations.EmptyQueuePassesOneMillisecond : Prop :=
  let down : Timer → Timer := fun x => match x with
    | none => none
    | some n => some (n - 1)
  let drift : ResRec → ResRec := fun x => { x with driftTimer := down x.driftTimer }
  let lease : Lease → Lease := fun l => if l.running then ⟨l.remaining - 1, true, false⟩ else ⟨l.remaining, false, false⟩
  ∀ s : State, s.pending = [] → ∃ t, step s = .next t
    ∧ t.sys = s.sys ∧ t.par = s.par ∧ t.cp = s.cp ∧ t.fc = s.fc ∧ t.pending = []
    ∧ t.mc = { s.mc with sampleTimer := down s.mc.sampleTimer, splitTimer := down s.mc.splitTimer,
                         stillTimer := down s.mc.stillTimer, stillOvertaken := false, graceTimer := down s.mc.graceTimer }
    ∧ t.pcu = { s.pcu with stopTimer := down s.pcu.stopTimer, stopOvertaken := false, windowTimer := down s.pcu.windowTimer }
    ∧ t.pi = { s.pi with convTimer := down s.pi.convTimer }
    ∧ t.pg = { s.pg with updateTimer := down s.pg.updateTimer }
    ∧ t.tk = { s.tk with updateTimer := down s.tk.updateTimer }
    ∧ t.rm = { s.rm with
        split := drift s.rm.split, ptor := drift s.rm.ptor, ptoa := drift s.rm.ptoa, ptob := drift s.rm.ptob
        shift := s.rm.shift.map (fun sh => { sh with timer := sh.timer - 1 })
        adoption := down s.rm.adoption, slipTimer := down s.rm.slipTimer, rearmTimer := down s.rm.rearmTimer }
    ∧ t.pe = { s.pe with apply := s.pe.apply.map (fun a => { a with timer := a.timer - 1 }) }
    ∧ t.ps = { s.ps with
        op := s.ps.op.map (fun x => match x with
          | .write g data check n => .write g data check (n - 1)
          | .erase n => .erase (n - 1))
        validationTimer := down s.ps.validationTimer }
    ∧ t.dt.governing = s.dt.governing ∧ t.dt.slots.length = s.dt.slots.length
    ∧ (∀ i, t.dt.slot i = match (s.dt.slot i).cond with
        | .occupied r => ⟨(s.dt.slot i).gen, .occupied { r with lease := lease r.lease }⟩
        | _ => s.dt.slot i)

/-- Every command of the table completes: whatever the state, exec answers a next state, and adds nothing to the queue and
takes nothing from it. -/
def Obligations.EveryCommandCompletes : Prop :=
  ∀ (c : Instr) (s : State), ∃ t, exec c s = .next t ∧ t.pending = s.pending

/-! ## Frames (R174 to R178) -/

/-- R177: the CRC-8 starts at 0xFF; for each byte the register takes the exclusive-or with the byte and is shifted left eight
times, with 0x07 added where a 1 is shifted out; nothing follows the last byte. A request frame is taken as sound exactly
where its last byte is the CRC-8 of the bytes from the code through the body, and every answer frame carries the CRC-8 of its
own bytes from the code through the body. -/
def Obligations.FrameCheckFollowsR177 : Prop :=
  let shift : Byte → Byte := fun r => if r.getLsbD 7 then (r <<< 1) ^^^ 0x07 else r <<< 1
  (crc8 [] = 0xFF)
  ∧ (∀ (bytes : List Byte) (b : Byte), crc8 (bytes ++ [b]) = Nat.iterate shift 8 (crc8 bytes ^^^ b))
  ∧ (∀ (code control c : Byte) (body extra : List Byte), body.length ≤ 60 →
      receive (0x5A :: code :: control :: BitVec.ofNat 8 body.length :: (body ++ c :: extra))
        = .complete code control body (decide (c = crc8 (code :: control :: BitVec.ofNat 8 body.length :: body))))
  ∧ (∀ a : Answer, ∃ body, answerBytes a
      = 0xA6 :: a.code :: resultCode a.result :: BitVec.ofNat 8 body.length :: body
        ++ [crc8 (a.code :: resultCode a.result :: BitVec.ofNat 8 body.length :: body)])

/-- R178: the code of each request, and every other code UNKNOWN; the values of the result codes, STORE_ERROR's being also the value
of that abandon reason in a preset result. R175: the station from the low three bits of byte 2, the clear flag from its bit 7. R176:
a number is carried most significant byte first and a signed one in two's complement; the words of a PROFILE_WRITE follow its two
bytes. An answer body is sent field by field in the order of its items, in at most 250 bytes; that this is the order in which its
rule names them, where the rule does not call it an order, is the model's choice (log 8). R19, R172: FIND's descriptors and the
causes of the also set, in the order kept (log 48), come after their count. R181: STATUS carries the nine flags and then the nine
enables in priority order; that an ACK answer does so too, and the marks before a field that may be absent, are the model's choice
(log 8). -/
def Obligations.FrameCodesAndNumbers : Prop :=
  (∀ (control : Byte) (body : List Byte),
    let st := control.toNat % 8
    let clear := control.getLsbD 7
    decodeRequest 0x00 control body = some .nop
    ∧ (∃ b, decodeRequest 0x01 control body = some (.openDemand st b))
    ∧ (∃ b, decodeRequest 0x02 control body = some (.amend b))
    ∧ (∃ d, decodeRequest 0x03 control body = some (.retire d))
    ∧ decodeRequest 0x04 control body = some (.retireStation st)
    ∧ (∃ d, decodeRequest 0x05 control body = some (.query clear d))
    ∧ (∃ f, decodeRequest 0x06 control body = some (.find st clear f))
    ∧ (∃ d, decodeRequest 0x07 control body = some (.renew st d))
    ∧ decodeRequest 0x10 control body = some .readResources
    ∧ decodeRequest 0x11 control body = some .readMode
    ∧ decodeRequest 0x12 control body = some .readSpeeds
    ∧ decodeRequest 0x13 control body = some .readGovernor
    ∧ (∃ n, decodeRequest 0x14 control body = some (.readTank n))
    ∧ (∃ p, decodeRequest 0x18 control body = some (.applyPreset st p))
    ∧ decodeRequest 0x19 control body = some .readPresetResult
    ∧ decodeRequest 0x20 control body = some .status
    ∧ (∃ b, decodeRequest 0x21 control body = some (.ack b))
    ∧ decodeRequest 0x22 control body = some .readFault
    ∧ (∃ x, decodeRequest 0x23 control body = some (.ackFault x))
    ∧ decodeRequest 0x24 control body = some .resync
    ∧ (∃ g, decodeRequest 0x30 control body = some (.profileRead g))
    ∧ (∃ p, decodeRequest 0x31 control body = some (.profileWrite p))
    ∧ decodeRequest 0x32 control body = some .profileErase
    ∧ decodeRequest 0x33 control body = some .profileLock
    ∧ decodeRequest 0x34 control body = some .profileUnlock)
  ∧ (∀ (code control : Byte) (body : List Byte), 0x07 < code.toNat →
      code.toNat ∉ [0x10, 0x11, 0x12, 0x13, 0x14, 0x18, 0x19, 0x20, 0x21, 0x22, 0x23, 0x24, 0x30, 0x31, 0x32, 0x33, 0x34] →
      decodeRequest code control body = none)
  ∧ [Result.ok, .clamped, .accepted, .empty, .badFrame, .unknown, .badArg, .stale, .tableFull, .pathConflict, .outletBusy,
      .notPermitted, .notOwner, .noProfile, .locked, .busy, .lockdown, .storeError].map resultCode
    = [0x00, 0x01, 0x02, 0x03, 0x10, 0x11, 0x12, 0x13, 0x14, 0x15, 0x16, 0x17, 0x18, 0x19, 0x1A, 0x1B, 0x1C, 0x1D]
  ∧ nameValue (.abandon .storeError) = 0x1D
  ∧ (∀ (bytes : List Byte) (b : Byte), numberOf (bytes ++ [b]) = numberOf bytes * 256 + b.toNat)
  ∧ (∀ (width : Nat) (v : Int),
      (bytesOfInt width v).length = width ∧ (numberOf (bytesOfInt width v) : Int) = v % 256 ^ width)
  ∧ (∀ (control g offset : Byte) (ws : List Word),
      decodeRequest 0x31 control (g :: offset :: ws.flatMap (fun w => bytesOfInt 2 w.toNat))
        = some (.profileWrite (some ⟨g.toNat, offset.toNat, ws⟩)))
  ∧ (∀ ds : List Descriptor, (Body.found ds).items = .nat ds.length :: ds.flatMap (fun d => [.nat d.slot, .nat d.gen]))
  ∧ (∀ (also : List Cause) (l : Bool) (x y z : Option Capture), (Body.faults x also y l z).items
      = optionalField Capture.items x ++ (.nat also.length :: also.map (fun c => .name (.cause c)))
        ++ optionalField Capture.items y ++ [.flag l] ++ optionalField Capture.items z)
  ∧ (∀ (code : Byte) (b : Body), bodyBytes code b
      = (b.items.zipIdx.flatMap (fun p => p.1.bytes code b.items.length p.2)).take 250)
  ∧ (∀ (f k : AttSet) (top : Option Att) (m : Mode) (kind : ResetKind) (r : Bool),
      let flags := allCauses.map (fun c => Item.flag (hasAtt c f)) ++ allCauses.map (fun c => Item.flag (hasAtt c k))
      (Body.status f k top m kind r).items.take 18 = flags ∧ (Body.attention f k).items = flags)

/-- R173: the bits of a transaction give its bytes, the most significant bit of each first, and a part byte at the end is
dropped. R174, R175: at CS_N rise a sound frame of a known code is that request, whatever bytes follow the frame. Nothing and an
aborted frame leave the answer buffer unchanged; a wrong sync, a length over 60 and a wrong CRC-8 are answered BAD_FRAME, an
unknown code UNKNOWN; nothing else changes. -/
def Obligations.FramesAtCsRise : Prop :=
  let bits : List Byte → List Bool := fun bytes => bytes.flatMap (fun b => (List.range 8).map (fun k => b.getLsbD (7 - k)))
  ∀ (part : List Bool) (s : State), part.length < 8 → s.cp.txn = .active →
    let rise : List Byte → Instr := fun bytes => .transactionEnd (bits bytes ++ part)
    let silent : State := { s with cp := { s.cp with txn := .idle, sdo := none } }
    (∀ (code control : Byte) (body extra : List Byte) (c : Instr), body.length ≤ 60 →
        decodeRequest code control body = some c →
        let checked := code :: control :: BitVec.ofNat 8 body.length :: body
        exec (rise (0x5A :: checked ++ crc8 checked :: extra)) s = exec c s)
    ∧ exec (rise []) s = .next silent
    ∧ (∀ (b : Byte) (rest : List Byte), b ≠ 0x5A →
        exec (rise (b :: rest)) s = .next (answered (rest.headD 0x00) .badFrame .empty s))
    ∧ (∀ rest : List Byte, rest.length < 3 → exec (rise (0x5A :: rest)) s = .next silent)
    ∧ (∀ (code control len : Byte) (rest : List Byte), 60 < len.toNat →
        exec (rise (0x5A :: code :: control :: len :: rest)) s = .next (answered code .badFrame .empty s))
    ∧ (∀ (code control len : Byte) (rest : List Byte), len.toNat ≤ 60 → rest.length < len.toNat + 1 →
        exec (rise (0x5A :: code :: control :: len :: rest)) s = .next silent)
    ∧ (∀ (code control : Byte) (body extra : List Byte) (c : Byte), body.length ≤ 60 →
        let checked := code :: control :: BitVec.ofNat 8 body.length :: body
        c ≠ crc8 checked →
        exec (rise (0x5A :: checked ++ c :: extra)) s = .next (answered code .badFrame .empty s))
    ∧ (∀ (code control : Byte) (body extra : List Byte), body.length ≤ 60 → decodeRequest code control body = none →
        let checked := code :: control :: BitVec.ofNat 8 body.length :: body
        exec (rise (0x5A :: checked ++ crc8 checked :: extra)) s = .next (answered code .unknown .empty s))

/-! ## Transactions and the requests of the Command Port -/

/-- R173, R175: CS_N's fall begins a transaction that shifts out the answer buffer as it stands, each byte's most significant bit
first and 0x00 after the frame; a NOP ends its transaction and leaves the answer buffer unchanged. R175 check 3, R179, R184: during
a RESYNC every request but NOP and STATUS is answered BUSY, during a reset none is taken, and one in a transaction that RESYNC's
completion aborted is not executed; nothing else changes. A CS_N rise that ends an aborted transaction executes nothing whatever
bits it held, and one outside a transaction changes nothing, which is the model's choice (log 9). -/
def Obligations.TransactionsAndRequestsNotTaken : Prop :=
  (∀ s : State, s.sys.resetActive = false →
    (s.cp.txn = .idle →
      exec .transactionStart s = .next { s with cp := { s.cp with txn := .active, sdo := some s.cp.answer } })
    ∧ exec .nop s = .next { s with cp := { s.cp with txn := .idle, sdo := none } })
  ∧ (∀ (a : Answer) (byte bit : Nat), bit < 8 →
      (∀ b, (answerBytes a)[byte]? = some b → sdoBit a (8 * byte + bit) = b.getLsbD (7 - bit))
      ∧ ((answerBytes a)[byte]? = none → sdoBit a (8 * byte + bit) = false))
  ∧ (∀ (c : Instr) (k : Byte) (s : State), requestCode c = some k →
    (s.sys.resetActive = true → exec c s = .next s)
    ∧ (s.sys.resetActive = false → s.cp.txn = .aborted →
        exec c s = .next { s with cp := { s.cp with txn := .idle, sdo := none } })
    ∧ (s.sys.resetActive = false → s.cp.txn ≠ .aborted → s.cp.resync = true → k ≠ 0x00 → k ≠ 0x20 →
        exec c s = .next (answered k .busy .empty s)))
  ∧ (∀ (bits : List Bool) (s : State),
    (s.cp.txn = .aborted → exec (.transactionEnd bits) s = .next { s with cp := { s.cp with txn := .idle, sdo := none } })
    ∧ (s.cp.txn = .idle → exec (.transactionEnd bits) s = .next s))

/-- R181, R180: STATUS is answered at once, during a RESYNC too, with the flags, the mask, the top cause, the mode, the last
reset kind and whether a RESYNC is in progress, and changes nothing. The top cause is the set flag of highest priority,
whatever the mask, and none when no flag is set. R182: ACK clears the named flags among the six it may clear, stores a given mask,
re-evaluates ATTN, answers with both and changes nothing else; a body that does not fit is BAD_ARG. -/
def Obligations.StatusAndAck : Prop :=
  (∀ s : State, s.sys.resetActive = false → s.cp.txn ≠ .aborted →
    exec .status s = .next (answered 0x20 .ok
      (.status s.cp.flags s.cp.mask (topCause s.cp.flags) s.mc.mode s.cp.resetKind s.cp.resync) s))
  ∧ (∀ (f : AttSet) (c : Att), topCause f = some c ↔
      (hasAtt c f = true ∧ ∀ d ∈ allCauses.takeWhile (· ≠ c), hasAtt d f = false))
  ∧ (∀ f : AttSet, topCause f = none ↔ f = noAtt)
  ∧ (∀ (x : AttSet) (m : Option AttSet) (s : State), Serving s →
    let f : AttSet := { s.cp.flags with
      demandChanged := s.cp.flags.demandChanged && !x.demandChanged
      modeChanged := s.cp.flags.modeChanged && !x.modeChanged
      tankChanged := s.cp.flags.tankChanged && !x.tankChanged
      presetDone := s.cp.flags.presetDone && !x.presetDone
      profileDone := s.cp.flags.profileDone && !x.profileDone
      resyncDone := s.cp.flags.resyncDone && !x.resyncDone }
    let k := m.getD s.cp.mask
    exec (.ack (some ⟨x, m⟩)) s = .next { s with cp := { s.cp with
      txn := .idle, sdo := none, flags := f, mask := k,
      attn := f.lockdown || (f.critical && k.critical) || (f.standard && k.standard)
        || (f.demandChanged && k.demandChanged) || (f.modeChanged && k.modeChanged)
        || (f.tankChanged && k.tankChanged) || (f.presetDone && k.presetDone)
        || (f.profileDone && k.profileDone) || (f.resyncDone && k.resyncDone),
      answer := ⟨0x21, .ok, .attention f k⟩ } }
    ∧ exec (.ack none) s = .next (answered 0x21 .badArg .empty s))

/-- R183, R184, R159, R188: a RESYNC accepted with no shift in flight and nothing queued completes in its own event. The
apply is abandoned with reason RESYNC and the slots it holds RESERVED are FREE with their generations advanced, the staging record
is discarded, the standard slot emptied, every flag but LOCKDOWN and CRITICAL cleared and RESYNC_DONE set; every record's changed
flag is set, and DEMAND_CHANGED with it exactly where some record's was clear. The critical capture, the drive train and the blocks
that RESYNC leaves as they were stand. -/
def Obligations.ResyncWithNoShiftCompletesAtOnce : Prop :=
  ∀ s : State, Serving s → AtRest s → s.fc.lockdown = false → s.ps.op = none → s.rm.shift = none → s.rm.queue = [] →
    ∃ t, exec .resync s = .next t
      ∧ t.cp.answer = ⟨0x24, .accepted, .empty⟩ ∧ t.cp.resync = false ∧ t.cp.mask = s.cp.mask
      ∧ t.cp.flags.resyncDone = true ∧ t.cp.flags.standard = false ∧ t.cp.flags.presetDone = false
      ∧ t.cp.flags.modeChanged = false ∧ t.cp.flags.tankChanged = false ∧ t.cp.flags.profileDone = false
      ∧ t.cp.flags.critical = s.cp.flags.critical ∧ t.cp.flags.lockdown = s.cp.flags.lockdown
      ∧ (t.cp.flags.demandChanged = true ↔ ∃ r ∈ s.dt.records, r.changed = false)
      ∧ t.fc = { s.fc with standard := none, also := [] }
      ∧ t.pe = (match s.pe.apply with
          | none => s.pe
          | some a => { s.pe with apply := none, result := .abandoned a.preset a.station a.count .resync none })
      ∧ t.ps = { s.ps with staging := none }
      ∧ t.rm = { s.rm with closed := false }
      ∧ t.mc = s.mc ∧ t.pcu = s.pcu ∧ t.pi = s.pi ∧ t.pg = s.pg ∧ t.tk = s.tk ∧ t.par = s.par ∧ t.sys = s.sys
      ∧ t.dt.governing = s.dt.governing
      ∧ (∀ i, ((s.dt.slot i).cond = .free → t.dt.slot i = s.dt.slot i)
        ∧ (∀ r, (s.dt.slot i).cond = .occupied r → t.dt.slot i = ⟨(s.dt.slot i).gen, .occupied { r with changed := true }⟩)
        ∧ ((s.dt.slot i).cond = .reserved → (∀ a, s.pe.apply = some a → i ∉ a.slots) → t.dt.slot i = s.dt.slot i)
        ∧ (∀ a, (s.dt.slot i).cond = .reserved → s.pe.apply = some a → i ∈ a.slots →
            t.dt.slot i = ⟨((s.dt.slot i).gen + 1) % 16, .free⟩))

/-- R183: a RESYNC in lockdown is answered LOCKDOWN and one while a write or an erase runs BUSY; a refused one changes nothing. R55,
R183, R184: a RESYNC accepted with a shift in PREPARE whose preconditions do not hold completes at once: its entry goes back to the
head of the queue and takes the slot again with a fresh prep timer, the rest of the queue keeps its order, and no holder leaves
ENGAGING for it. One accepted with a shift in ACTUATE or SETTLE stays in progress while the shift runs on. R183, R184, R185: one that
waits so completes in the event in which that shift is DONE or fails, or in which lockdown stops it, by the six steps of R184: the
standard slot and its also set are empty, whatever the shift reported; every flag but LOCKDOWN and CRITICAL is cleared; every record's
changed flag is set, DEMAND_CHANGED raised for one that was clear and that the event leaves as it was (for a holder of the shift's
resource, while it is HELD), and not where all were set; a transaction in progress is aborted; RESYNC_DONE is set; the slot is open,
and the head of the queue, behind which the shift's re-evaluation has appended its entry, takes it with a fresh prep timer or, where
its preconditions hold, drives its output. A DONE ENGAGE makes its holders ACTIVE and a failed one makes them FORFEIT as ever. The
answer, the mask and the last reset kind stand. Other events leave the RESYNC in progress, the slot closed and the shift in flight,
unless they bring lockdown. The premise `ResyncWaits`, which every step keeps, rules out states that no run reaches. -/
def Obligations.ResyncReturnsPrepareAndWaitsForActuate : Prop :=
  let completed : Shift → State → State → Prop := fun sh s t =>
    t.fc.standard = none ∧ t.fc.also = []
      ∧ t.cp.flags.standard = false ∧ t.cp.flags.tankChanged = false ∧ t.cp.flags.presetDone = false ∧ t.cp.flags.profileDone = false
      ∧ t.cp.flags.lockdown = (s.cp.flags.lockdown || t.fc.lockdown)
      ∧ t.cp.flags.critical = (s.cp.flags.critical || (s.fc.critical.isNone && t.fc.critical.isSome))
      ∧ (∀ i r, (t.dt.slot i).record = some r → r.changed = true)
      ∧ ((∀ r ∈ s.dt.records, r.changed = true) → t.cp.flags.demandChanged = false)
      ∧ (∀ i r, (s.dt.slot i).record = some r → r.changed = false → r.holds sh.res = false ∨ r.state = .held →
          (t.dt.slot i).record = some { r with changed := true } → t.cp.flags.demandChanged = true)
      ∧ t.cp.txn = (if s.cp.txn = .active then .aborted else s.cp.txn)
      ∧ t.cp.resync = false ∧ t.cp.flags.resyncDone = true ∧ t.rm.closed = false
      ∧ t.cp.answer = s.cp.answer ∧ t.cp.mask = s.cp.mask ∧ t.cp.resetKind = s.cp.resetKind
  let reopened : State → State → List Entry → Prop := fun s t q => match q with
    | [] => t.rm.shift = none ∧ t.rm.queue = []
    | e :: rest => t.rm.queue = rest
        ∧ (e.op = .engage → ∀ i r, (t.dt.slot i).record = some r → r.holds e.res = true → r.state ≠ .queued)
        ∧ (t.preconditions e.res e.op = false → t.rm.shift = some ⟨e.res, e.op, .prepare, s.par.prepTimeout * 1000⟩)
        ∧ (t.preconditions e.res e.op = true →
            let new : Pos := if e.op = .engage then .engaged else .disengaged
            (t.res e.res).cmd = (e.op == .engage)
            ∧ (s.input e.res ≠ new → t.rm.shift = some ⟨e.res, e.op, .actuate, s.par.confirmTime⟩)
            ∧ (s.input e.res = new → t.rm.shift = some ⟨e.res, e.op, .settle, s.par.settleTime⟩))
  (∀ s : State, Serving s → s.fc.lockdown = true → exec .resync s = .next (answered 0x24 .lockdown .empty s))
  ∧ (∀ s : State, Serving s → s.fc.lockdown = false → s.ps.op.isSome = true →
      exec .resync s = .next (answered 0x24 .busy .empty s))
  ∧ (∀ (sh : Shift) (s : State), Serving s → AtRest s → s.fc.lockdown = false → s.ps.op = none → s.pe.apply = none →
    s.rm.shift = some sh →
    (sh.stage = .prepare → s.preconditions sh.res sh.op = false → (s.res sh.res).conf = s.input sh.res →
      s.rm.pumpPath = s.rm.pathEngaged → ∃ t, exec .resync s = .next t
        ∧ t.rm.shift = some ⟨sh.res, sh.op, .prepare, s.par.prepTimeout * 1000⟩ ∧ t.rm.queue = s.rm.queue
        ∧ t.cp.resync = false ∧ t.cp.flags.resyncDone = true ∧ t.rm.closed = false
        ∧ (∀ i r, (s.dt.slot i).record = some r → r.state ≠ .queued →
            (t.dt.slot i).record = some { r with changed := true }))
    ∧ (sh.stage ≠ .prepare →
        exec .resync s = .next { s with
          cp := { s.cp with txn := .idle, sdo := none, resync := true, answer := ⟨0x24, .accepted, .empty⟩ },
          ps := { s.ps with staging := none }, rm := { s.rm with closed := true } }))
  ∧ (∀ (sh : Shift) (s : State), ResyncWaits s → s.cp.resync = true → s.rm.shift = some sh →
    (∀ e ∈ s.rm.queue, e.res ≠ sh.res) → (s.res sh.res).holders = s.dt.holdersOf sh.res →
    let x := s.res sh.res
    let failed : Prop := sh.stage = .actuate ∧ sh.op = .engage
    let appended : List Entry :=
      if failed then []
      else if 0 < x.holders ∧ x.cut = false then (if x.cmd then [] else [⟨sh.res, .engage, false⟩])
      else if x.cmd then [⟨sh.res, .disengage, false⟩] else []
    let ends : State → Prop := fun t => completed sh s t ∧ (t.res sh.res).conf = s.input sh.res
      ∧ (t.fc.lockdown = false → reopened s t (s.rm.queue ++ appended)
          ∧ (t.cp.flags.modeChanged = true ↔ t.mc.mode ≠ s.mc.mode))
    (sh.stage = .settle → ∃ t, exec .settleExpiry s = .next t ∧ ends t
      ∧ (sh.op = .engage → s.input sh.res = .engaged → x.cmd = true → 0 < x.holders → x.cut = false →
          t.fc.lockdown = false → t.fc.critical = s.fc.critical → ∀ i r, (s.dt.slot i).record = some r →
          r.holds sh.res = true → r.reasons = Reasons.none → ∃ r', (t.dt.slot i).record = some r' ∧ r'.state = .active))
    ∧ (sh.stage = .actuate → ∃ t, exec .confirmExpiry s = .next t ∧ ends t
      ∧ (sh.op = .engage → (t.res sh.res).cmd = false ∧ (t.res sh.res).holders = 0
          ∧ ∀ i r, (s.dt.slot i).record = some r → r.holds sh.res = true → ∃ r', (t.dt.slot i).record = some r'
            ∧ r'.state = .forfeit (if t.fc.lockdown then .lockdown else .noConfirm))
      ∧ (sh.op = .disengage → sh.res = .split →
          (s.fc.critical = none → ∃ c, t.fc.critical = some c ∧ c.cause = .splitStuck ∧ c.res = some .split)
          ∧ (s.fc.critical.isSome = true → t.fc.lockdown = true))))
  ∧ (∀ (l : Inputs) (r : Res) (sh : Shift) (s : State), ResyncWaits s → s.cp.resync = true → s.rm.shift = some sh →
    ∀ c ∈ [Instr.inputSample l, .speedWindow, .stillnessExpiry, .splitWatchExpiry, .driftExpiry r, .adoptionWindowExpiry],
      ∃ t, exec c s = .next t
        ∧ (t.fc.lockdown = true → completed sh s t ∧ t.cp.flags.modeChanged = false ∧ t.mc.mode = .lockdown
            ∧ t.rm.shift = none ∧ t.rm.queue = [] ∧ (∀ q ∈ t.dt.records, q.state = .forfeit .lockdown))
        ∧ (t.fc.lockdown = false → t.cp.resync = true ∧ t.rm.closed = true ∧ t.cp.flags.resyncDone = s.cp.flags.resyncDone
            ∧ ∃ sh', t.rm.shift = some sh' ∧ sh'.res = sh.res ∧ sh'.op = sh.op ∧ sh'.stage ≠ .prepare))

/-! ## The Demand Table -/

/-- R10: OPEN's checks in order, each with its answer; a refused OPEN changes nothing but the answer. -/
def Obligations.OpenChecksInOrder : Prop :=
  ∀ (st : Nat) (b : DemandBody) (s : State), Serving s →
    (s.ps.op.isSome = true → exec (.openDemand st b) s = .next (answered 0x01 .busy .empty s))
    ∧ (s.ps.op = none → specOf b = none ∨ st = 0 ∨ 6 < st →
        exec (.openDemand st b) s = .next (answered 0x01 .badArg .empty s))
    ∧ (∀ x, s.ps.op = none → specOf b = some x → 1 ≤ st → st ≤ 6 →
        (s.tanksPresent x = false → exec (.openDemand st b) s = .next (answered 0x01 .badArg .empty s))
        ∧ (s.tanksPresent x = true →
            (s.ps.validity ≠ .valid → exec (.openDemand st b) s = .next (answered 0x01 .noProfile .empty s))
            ∧ (s.ps.validity = .valid →
                (s.fc.lockdown = true → exec (.openDemand st b) s = .next (answered 0x01 .lockdown .empty s))
                ∧ (s.fc.lockdown = false → s.dt.slots.length = 24 →
                    ((∀ i, i < 24 → (s.dt.slot i).cond ≠ .free) →
                      exec (.openDemand st b) s = .next (answered 0x01 .tableFull .empty s))
                    ∧ ((∃ i, i < 24 ∧ (s.dt.slot i).cond = .free) →
                        ((x.kind = .pumpStat ∧ s.dt.holdsKind .pumpRoll) ∨ (x.kind = .pumpRoll ∧ s.dt.holdsKind .pumpStat) →
                          exec (.openDemand st b) s = .next (answered 0x01 .pathConflict .empty s))
                        ∧ (∀ o src f p, x = .discharge o src f p →
                            (∃ r ∈ s.dt.records, r.isForfeit = false ∧ ∃ src' f' p', r.demand = .discharge o src' f' p') →
                            exec (.openDemand st b) s = .next (answered 0x01 .outletBusy .empty s)))))))

/-- R12, R13, R11, R26, R145: an OPEN of a DISCHARGE that passes every check stores the record in the lowest FREE slot with its
present generation, the flow limited to 10000, the changed flag clear, the hold reasons and the foam suspension that apply at
once, ACTIVE exactly where it has no reason; the answer carries them. Only the Tank Monitor hears of it: R143, R146, R147: the draw
totals of the three tanks, TANKVLV, FOAM1 and FOAM2 stand as the table then gives them, and nothing else of the tanks moves but
their times to empty. -/
def Obligations.OpenDischargeCreatesRecord : Prop :=
  ∀ (st o flow i : Nat) (src : Source) (foam : Option FoamFields) (p : Option (FoamTank × Nat)) (rest : List Nat) (s : State),
    Serving s → AtRest s → s.ps.op = none → s.ps.validity = .valid → s.fc.lockdown = false → 1 ≤ st → st ≤ 6 →
    specOf (.discharge o (some src) flow foam) = some (.discharge o src flow p) →
    s.tanksPresent (.discharge o src flow p) = true → s.dt.freeSlots = i :: rest → s.dt.outletBusy (some o) = false →
    let reasons : Reasons := { Reasons.none with
      noPump := !(s.rm.split.conf == .engaged || s.rm.ptor.conf == .engaged)
      tankEmpty := src == .tank && s.tk.t0.state == .vol .empty }
    let state : RecState := if reasons.noPump || reasons.tankEmpty then .held else .active
    let r : Rec := ⟨.discharge o src (min flow 10000) (p.map (fun q => ⟨q.1, q.2, suspensionBy s q.1⟩)), st, state, reasons,
      ⟨0, false, false⟩, false⟩
    ∃ t, exec (.openDemand st (.discharge o (some src) flow foam)) s = .next t
      ∧ t.dt.slot i = ⟨(s.dt.slot i).gen, .occupied r⟩ ∧ OtherSlotsStand i s t ∧ t.dt.governing = s.dt.governing
      ∧ OnlyTableMoves s t ∧ t.pg = s.pg
      ∧ DrawsAgree t ∧ t.tk.weight = s.tk.weight ∧ t.tk.updateTimer = s.tk.updateTimer
      ∧ (∀ k, ∃ d x, t.tk.get k = { s.tk.get k with draw := d, tte := x })
      ∧ t.cp = (answered 0x01 (if 10000 < flow then .clamped else .ok)
          (.opened ⟨i, (s.dt.slot i).gen⟩ state reasons (some (min flow 10000))) s).cp

/-- R12, R13, R20, R33, R44, R50, R52: an OPEN whose resource (SPLIT, PTOR, PTOA or PTOB) is engaged and confirmed with no shift of
it in flight, and with nothing queued for it or a DISENGAGE that no holder stands against, needs no shift. It withdraws that
DISENGAGE, counts one holder more and adopts an orphan. The record is ACTIVE, or HELD with the reasons that apply at once:
CRITICAL for a pump kind while the critical slot is filled, OVERSPEED too for a PUMP_ROLL while an episode is open. A PUMP_ROLL
record's lease runs with the lease period; a pump-kind record stands at the front of the governing list. An OPEN of an AUX whose
take-off is cut is HELD with SPEED_CUT and counted, and nothing is queued, shifted or adopted for it, whatever the positions.
Nothing else changes. An OPEN of a PUMP_STAT that is the first holder of SPLIT while SPLIT's DISENGAGE waits in PREPARE cancels
that shift without a fault of its own: SPLIT stays at PUMP, and the record is counted and ACTIVE, or HELD with CRITICAL, unless the
mode that follows brings a fault of a pumping watch in the same event. An OPEN whose resource is not engaged, or has a shift or an
ENGAGE of its own before it, is OpenStartsEngage's. -/
def Obligations.OpenOnEngagedResourceIsServedAtOnce : Prop :=
  ∀ (st sp i : Nat) (g : GovMode) (x : Target) (rest : List Nat) (s : State),
    Serving s → AtRest s → s.ps.op = none → s.ps.validity = .valid → s.fc.lockdown = false → 1 ≤ st → st ≤ 6 →
    s.dt.freeSlots = i :: rest →
    let v := match g with
      | .pressure => min sp s.par.maxPressure
      | .speed => min s.par.pumpMax (max s.par.idle sp)
    let d : Descriptor := ⟨i, (s.dt.slot i).gen⟩
    let q : Res := match x with
      | .a => .ptoa
      | .b => .ptob
    let critical : Reasons := { Reasons.none with critical := s.fc.critical.isSome }
    let engaged : Res → Prop := fun r =>
      (∀ sh, s.rm.shift = some sh → sh.res ≠ r) ∧ (∀ e ∈ s.rm.queue, e.res = r → e.op = .disengage ∧ (s.res r).holders = 0)
        ∧ (s.res r).conf = .engaged ∧ (s.res r).cmd = true ∧ (s.res r).cut = false
    let opens : DemandBody → Rec → List Descriptor → Result → Option Nat → RM → Prop := fun body r governing result stored rm =>
      exec (.openDemand st body) s = .next { s with
        dt := ⟨s.dt.slots.set i ⟨(s.dt.slot i).gen, .occupied r⟩, governing⟩
        rm := rm
        cp := (answered 0x01 result (.opened d r.state r.reasons stored) s).cp }
    let taken : Res → RM := fun r => { s.rm.put r { s.res r with holders := (s.res r).holders + 1, orphan := false } with
      queue := s.rm.queue.filter (fun e => e.res != r) }
    let state : Reasons → RecState := fun reasons => if reasons.isNone then .active else .held
    (engaged .split → s.dt.pathConflict .pumpStat = false →
      opens (.pumpStat (some g) sp) ⟨.pumpStat g v, st, state critical, critical, ⟨0, false, false⟩, false⟩
        (d :: s.dt.governing) (if v ≠ sp then .clamped else .ok) (some v) (taken .split))
    ∧ (engaged .ptor → s.dt.pathConflict .pumpRoll = false →
      let reasons : Reasons := { critical with overspeed := s.mc.overEp }
      opens (.pumpRoll (some g) sp) ⟨.pumpRoll g v, st, state reasons, reasons, ⟨s.par.leasePeriod, true, false⟩, false⟩
        (d :: s.dt.governing) (if v ≠ sp then .clamped else .ok) (some v) (taken .ptor))
    ∧ (engaged q → opens (.aux (some x)) ⟨.aux x, st, .active, Reasons.none, ⟨0, false, false⟩, false⟩
        s.dt.governing .ok none (taken q))
    ∧ ((s.res q).cut = true →
      opens (.aux (some x)) ⟨.aux x, st, .held, { Reasons.none with speedCut := true }, ⟨0, false, false⟩, false⟩
        s.dt.governing .ok none (s.rm.put q { s.res q with holders := (s.res q).holders + 1 }))
    ∧ (∀ n, s.rm.shift = some ⟨.split, .disengage, .prepare, n⟩ → s.rm.queue = [] → s.rm.split.holders = 0 →
      s.rm.split.cmd = true → s.rm.split.cut = false → s.mc.splitPos = .engaged → s.dt.pathConflict .pumpStat = false →
      ∃ t, exec (.openDemand st (.pumpStat (some g) sp)) s = .next t
        ∧ t.rm.shift = none ∧ t.rm.queue = [] ∧ t.rm.split.cmd = true ∧ t.rm.split.conf = .engaged
        ∧ t.fc.standard = s.fc.standard
        ∧ (t.fc = s.fc → t.rm.split.holders = 1 ∧ t.dt.governing = d :: s.dt.governing
          ∧ t.dt.slot i = ⟨(s.dt.slot i).gen, .occupied ⟨.pumpStat g v, st, state critical, critical, ⟨0, false, false⟩, false⟩⟩))

/-- R12, R13, R36, R66, R69, R81, R119: an OPEN that is its resource's first holder, finds the resource at its disengaged
position, and finds the queue and the slot free, starts an ENGAGE shift of SPLIT, PTOR, PTOA or PTOB. R37, R38, R39: where the
preconditions of that operation hold, the shift passes PREPARE in the same event: the output is driven and the shift is in ACTUATE
with the confirm time, or in SETTLE where the confirm shows the engaged position already; where they do not, it waits in PREPARE with
the full prep timer and the output stands. The record is ENGAGING, or HELD with the reasons that apply at once (CRITICAL for a pump
kind, OVERSPEED for a PUMP_ROLL); a PUMP_ROLL's lease runs with the lease period from there; a pump-kind record stands at the front of
the governing list. The mode is SHIFTING with PARKHOLD on and RANGE NEUTRAL_ONLY, MODE_CHANGED is set, and the governor is OFF.
R32, R33, R8: where a shift of another resource has the slot, the ENGAGE of that first holder is appended at the back of the queue,
whatever stands there, and the record is QUEUED (or HELD). Where an ENGAGE of the resource is queued already, the OPEN only adds its
holder, QUEUED; where an ENGAGE shift of it is in flight, in any stage, the record is ENGAGING; where a DISENGAGE shift of it is in
ACTUATE or SETTLE, it is QUEUED; in each of these nothing is appended and nothing but the table, the count and the answer changes.
That the change of the mode, where a take-off's ENGAGE starts during stationary pumping, does not evaluate the motion watch, as R72
lists and against a plain reading of R67 step 5, is the model's choice (log 49). -/
def Obligations.OpenStartsEngage : Prop :=
  ∀ (st sp i : Nat) (g : GovMode) (x : Target) (rest : List Nat) (s : State),
    Serving s → AtRest s → LockoutsAgree s → s.mc.derived = true → s.ps.op = none → s.ps.validity = .valid →
    s.fc.lockdown = false → 1 ≤ st → st ≤ 6 → s.dt.freeSlots = i :: rest →
    let v := match g with
      | .pressure => min sp s.par.maxPressure
      | .speed => min s.par.pumpMax (max s.par.idle sp)
    let d : Descriptor := ⟨i, (s.dt.slot i).gen⟩
    let q : Res := match x with
      | .a => .ptoa
      | .b => .ptob
    let critical : Reasons := { Reasons.none with critical := s.fc.critical.isSome }
    let eachKind : (DemandBody → Res → Demand → Reasons → Lease → List Descriptor → Result → Option Nat → Prop) → Prop := fun f =>
      let result : Result := if v ≠ sp then .clamped else .ok
      (s.dt.pathConflict .pumpStat = false →
        f (.pumpStat (some g) sp) .split (.pumpStat g v) critical ⟨0, false, false⟩ (d :: s.dt.governing) result (some v))
      ∧ (s.dt.pathConflict .pumpRoll = false →
        f (.pumpRoll (some g) sp) .ptor (.pumpRoll g v) { critical with overspeed := s.mc.overEp } ⟨s.par.leasePeriod, true, false⟩
          (d :: s.dt.governing) result (some v))
      ∧ f (.aux (some x)) q (.aux x) Reasons.none ⟨0, false, false⟩ s.dt.governing .ok none
    let ready : Res → Prop := fun r =>
      s.pcu.eng.published ≤ s.par.engageLimit ∧ s.mc.accepted.neutral = true ∧ s.mc.still = true
        ∧ match r with
          | .split => s.mc.accepted.park = true ∧ s.rm.ptor.conf = .disengaged ∧ s.rm.ptor.cmd = false
          | .ptor => s.mc.accepted.park = true ∧ s.rm.split.conf = .disengaged ∧ s.rm.split.cmd = false
          | _ => True
    (s.rm.shift = none → s.rm.queue = [] → s.rm.closed = false → eachKind (fun body r demand reasons lease governing result stored =>
      (s.res r).conf = .disengaged → (s.res r).cmd = false → (s.res r).holders = 0 → (s.res r).cut = false →
      r = .split ∨ s.mc.splitPos ≠ .unknown →
      let state : RecState := if reasons.isNone then .engaging else .held
      ∃ t, exec (.openDemand st body) s = .next t
        ∧ (¬ready r → t.rm.shift = some ⟨r, .engage, .prepare, s.par.prepTimeout * 1000⟩ ∧ (t.res r).cmd = false)
        ∧ (ready r → (t.res r).cmd = true
          ∧ (s.input r ≠ .engaged → t.rm.shift = some ⟨r, .engage, .actuate, s.par.confirmTime⟩)
          ∧ (s.input r = .engaged → t.rm.shift = some ⟨r, .engage, .settle, s.par.settleTime⟩))
        ∧ t.rm.queue = [] ∧ (t.res r).holders = 1 ∧ (t.res r).conf = .disengaged ∧ (∀ p, p ≠ r → t.res p = s.res p)
        ∧ t.dt.slot i = ⟨(s.dt.slot i).gen, .occupied ⟨demand, st, state, reasons, lease, false⟩⟩
        ∧ t.dt.governing = governing
        ∧ t.cp.answer = ⟨0x01, result, .opened d state reasons stored⟩
        ∧ t.mc.mode = .shifting ∧ t.mc.parkhold = true ∧ t.mc.range = .neutralOnly ∧ t.cp.flags.modeChanged = true
        ∧ t.pg.state = .off ∧ t.fc = s.fc))
    ∧ (∀ sh, s.rm.shift = some sh → eachKind (fun body r demand reasons lease governing result stored =>
      let joins : RecState → List Entry → Prop := fun waits appended =>
        let state : RecState := if reasons.isNone then waits else .held
        exec (.openDemand st body) s = .next { s with
          dt := ⟨s.dt.slots.set i ⟨(s.dt.slot i).gen, .occupied ⟨demand, st, state, reasons, lease, false⟩⟩, governing⟩
          rm := { s.rm.put r { s.res r with holders := (s.res r).holders + 1 } with queue := s.rm.queue ++ appended }
          cp := (answered 0x01 result (.opened d state reasons stored) s).cp }
      (s.res r).cut = false →
      (sh.res ≠ r → (∀ e ∈ s.rm.queue, e.res ≠ r) → (s.res r).cmd = false → (s.res r).holders = 0 →
          joins .queued [⟨r, .engage, false⟩])
      ∧ (sh.res ≠ r → (∃ e ∈ s.rm.queue, e.res = r) → (∀ e ∈ s.rm.queue, e.res = r → e.op = .engage ∧ e.returned = false) →
          (s.res r).cmd = false → joins .queued [])
      ∧ (sh.res = r → (∀ e ∈ s.rm.queue, e.res ≠ r) → (s.res r).orphan = false →
          (sh.op = .engage → joins .engaging []) ∧ (sh.op = .disengage → sh.stage ≠ .prepare → joins .queued []))))

/-- R14, R15, R11, R20, R81, R83: an accepted AMEND stores the changeable fields, limited as OPEN limits them. A pump record goes
to the front of the governing list and takes its state by the service rule, a PUMP_ROLL record with its lease restarted and LEASE
removed, and the expiry of a lease that had just run out does not happen then (the mark that says so is the model's, log 2). A
DISCHARGE record keeps its state and reasons; a foam part that it is given, or whose tank is changed, takes the suspension of R145,
one whose tank is the same keeps its own, and the draws and valves follow (R143, R146, R147). An AUX record changes in nothing. The
answer carries the state, the reasons and the stored values. -/
def Obligations.AmendStoresChangeableFields : Prop :=
  ∀ (d : Descriptor) (r : Rec) (s : State), Serving s → AtRest s → s.fc.lockdown = false → d.slot < 24 →
    s.dt.slots.length = 24 → s.dt.slot d.slot = ⟨d.gen, .occupied r⟩ → r.isForfeit = false → 1 ≤ r.station → r.station ≤ 6 →
    (∀ g g' sp sp', r.demand = .pumpStat g sp →
      let v := match g' with
        | .pressure => min sp' s.par.maxPressure
        | .speed => min s.par.pumpMax (max s.par.idle sp')
      let state : RecState :=
        if !r.reasons.isNone then .held else if s.rm.ready .split then .active
        else if s.rm.engageOf .split || s.rm.returnedEngage .split then .engaging else .queued
      ∃ t, exec (.amend (some ⟨d, r.station, .pumpStat (some g') sp'⟩)) s = .next t
        ∧ t.dt.slot d.slot = ⟨d.gen, .occupied { r with demand := .pumpStat g' v, state := state }⟩
        ∧ t.dt.governing = d :: s.dt.governing.filter (· ≠ d)
        ∧ OtherSlotsStand d.slot s t ∧ OnlyTableMoves s t ∧ t.tk = s.tk
        ∧ (t.dt.governingDemand.isSome = true → t.pg = s.pg)
        ∧ t.cp = (answered 0x02 (if v ≠ sp' then .clamped else .ok) (.amended state r.reasons (.pumpStat g' v)) s).cp)
    ∧ (∀ g g' sp sp', r.demand = .pumpRoll g sp →
      let v := match g' with
        | .pressure => min sp' s.par.maxPressure
        | .speed => min s.par.pumpMax (max s.par.idle sp')
      let reasons : Reasons := { r.reasons with lease := false }
      let state : RecState :=
        if !reasons.isNone then .held else if s.rm.ready .ptor then .active
        else if s.rm.engageOf .ptor || s.rm.returnedEngage .ptor then .engaging else .queued
      ∃ t, exec (.amend (some ⟨d, r.station, .pumpRoll (some g') sp'⟩)) s = .next t
        ∧ t.dt.slot d.slot = ⟨d.gen, .occupied { r with
            demand := .pumpRoll g' v, reasons := reasons,
            lease := ⟨s.par.leasePeriod, true, r.lease.overtaken || (r.lease.running && r.lease.remaining == 0)⟩,
            state := state }⟩
        ∧ t.dt.governing = d :: s.dt.governing.filter (· ≠ d)
        ∧ OtherSlotsStand d.slot s t ∧ OnlyTableMoves s t ∧ t.tk = s.tk
        ∧ (t.dt.governingDemand.isSome = true → t.pg = s.pg)
        ∧ t.cp = (answered 0x02 (if v ≠ sp' then .clamped else .ok) (.amended state reasons (.pumpRoll g' v)) s).cp)
    ∧ (∀ o src flow flow' foam, r.demand = .discharge o src flow foam → o ≤ 7 →
        ∃ t, exec (.amend (some ⟨d, r.station, .discharge o (some src) flow' none⟩)) s = .next t
          ∧ t.dt.slot d.slot = ⟨d.gen, .occupied { r with demand := .discharge o src (min flow' 10000) none }⟩
          ∧ t.dt.governing = s.dt.governing ∧ OtherSlotsStand d.slot s t ∧ OnlyTableMoves s t ∧ t.pg = s.pg
          ∧ DrawsAgree t ∧ t.cp = (answered 0x02 (if 10000 < flow' then .clamped else .ok)
              (.amended r.state r.reasons (.discharge o src (min flow' 10000) none)) s).cp)
    ∧ (∀ o src flow flow' ratio old f, r.demand = .discharge o src flow old → o ≤ 7 → 1 ≤ ratio → ratio ≤ 100 →
        s.tankPresent (foamTankId f) = true →
        let n := match f with
          | .t1 => 1
          | .t2 => 2
        let susp : FoamSusp := match old with
          | some p => if p.tank = f then p.susp else suspensionBy s f
          | none => suspensionBy s f
        let demand : Demand := .discharge o src (min flow' 10000) (some ⟨f, ratio, susp⟩)
        ∃ t, exec (.amend (some ⟨d, r.station, .discharge o (some src) flow' (some ⟨n, ratio⟩)⟩)) s = .next t
          ∧ t.dt.slot d.slot = ⟨d.gen, .occupied { r with demand := demand }⟩
          ∧ t.dt.governing = s.dt.governing ∧ OtherSlotsStand d.slot s t ∧ OnlyTableMoves s t ∧ t.pg = s.pg
          ∧ DrawsAgree t
          ∧ t.cp = (answered 0x02 (if 10000 < flow' then .clamped else .ok) (.amended r.state r.reasons demand) s).cp)
    ∧ (∀ x, r.demand = .aux x →
        exec (.amend (some ⟨d, r.station, .aux (some x)⟩)) s
          = .next (answered 0x02 .ok (.amended r.state r.reasons r.demand) s))

/-- R14, R2: AMEND's checks in order, each with its answer; a refused AMEND changes nothing but the answer. The first conjunct says
which bodies hold a field out of range (R10 order 1): a code that is no value, an outlet over 7, a foam tank that is neither 1
nor 2, a ratio outside 1 to 100. That a body which restates source TANK while T0 is not present passes order 1 and is answered by
a later order is the model's choice (log 45). -/
def Obligations.AmendChecksInOrder : Prop :=
  (∀ b : DemandBody, specOf b = none ↔ match b with
    | .pumpStat g _ => g = none
    | .pumpRoll g _ => g = none
    | .aux x => x = none
    | .discharge o src _ foam => 7 < o ∨ src = none
        ∨ ∃ f, foam = some f ∧ ((f.tank ≠ 1 ∧ f.tank ≠ 2) ∨ f.ratio = 0 ∨ 100 < f.ratio)
    | .malformed => True)
  ∧ (∀ s : State, Serving s → exec (.amend none) s = .next (answered 0x02 .badArg .empty s))
  ∧ (∀ (b : AmendBody) (s : State), Serving s → s.dt.slots.length = 24 →
    let refused : Result → Body → Prop := fun r body => exec (.amend (some b)) s = .next (answered 0x02 r body s)
    (specOf b.body = none ∨ 23 < b.desc.slot ∨ b.station = 0 ∨ 6 < b.station → refused .badArg .empty)
    ∧ (∀ x, specOf b.body = some x → b.desc.slot < 24 → 1 ≤ b.station → b.station ≤ 6 →
      (∀ f, x.foamTank = some f → s.tankPresent (foamTankId f) = false → refused .badArg .empty)
      ∧ ((∀ f, x.foamTank = some f → s.tankPresent (foamTankId f) = true) →
        (s.fc.lockdown = true → refused .lockdown .empty)
        ∧ (s.fc.lockdown = false →
          let slot := s.dt.slot b.desc.slot
          (slot.cond = .free → refused .stale (.stale .free slot.gen))
          ∧ (slot.cond = .reserved → refused .stale (.stale .reserved slot.gen))
          ∧ (∀ r, slot.cond = .occupied r → slot.gen ≠ b.desc.gen → refused .stale (.stale .occupied slot.gen))
          ∧ (∀ r, slot = ⟨b.desc.gen, .occupied r⟩ →
            (r.isForfeit = true → refused .notPermitted .empty)
            ∧ (r.isForfeit = false →
                r.station ≠ b.station ∨ r.demand.kind ≠ x.kind
                  ∨ (∃ y y', r.demand = .aux y ∧ x = .aux y' ∧ y ≠ y')
                  ∨ (∃ o src f p o' src' f' p', r.demand = .discharge o src f p ∧ x = .discharge o' src' f' p'
                      ∧ (o ≠ o' ∨ src ≠ src')) →
                refused .badArg .empty))))))

/-- R16, R2: RETIRE of a slot over 23 is BAD_ARG, of a FREE or RESERVED slot or another generation STALE, and changes nothing but
the answer. R16, R1: RETIRE of a live descriptor frees its slot with the generation advanced by 1 modulo 16, takes the descriptor
off the governing list and is answered OK, in any state of the part. Where the record was a DISCHARGE or FORFEIT, the resources,
the mode and every other slot stand, and a DISCHARGE's draws are taken out (R143, R146, R147). R17: RETIRE_STATION leaves no record
of the station, answers OK with the number it retired, and advances the generation of exactly the slots it freed: another station's
records stay in their slots, FREE slots stand, and RESERVED slots stand unless the event ends in lockdown. A station outside 1 to 6
is BAD_ARG. -/
def Obligations.RetireFreesTheSlots : Prop :=
  (∀ s : State, Serving s → exec (.retire none) s = .next (answered 0x03 .badArg .empty s))
  ∧ (∀ (d : Descriptor) (s : State), Serving s → s.dt.slots.length = 24 →
    let refused : Result → Body → Prop := fun r body => exec (.retire (some d)) s = .next (answered 0x03 r body s)
    (23 < d.slot → refused .badArg .empty)
    ∧ (d.slot < 24 →
      ((s.dt.slot d.slot).cond = .free → refused .stale (.stale .free (s.dt.slot d.slot).gen))
      ∧ ((s.dt.slot d.slot).cond = .reserved → refused .stale (.stale .reserved (s.dt.slot d.slot).gen))
      ∧ (∀ r, (s.dt.slot d.slot).cond = .occupied r → (s.dt.slot d.slot).gen ≠ d.gen →
          refused .stale (.stale .occupied (s.dt.slot d.slot).gen))
      ∧ (∀ r, s.dt.slot d.slot = ⟨d.gen, .occupied r⟩ →
        ∃ t, exec (.retire (some d)) s = .next t
          ∧ t.dt.slot d.slot = ⟨(d.gen + 1) % 16, .free⟩ ∧ d ∉ t.dt.governing
          ∧ t.cp.answer = ⟨0x03, .ok, .empty⟩
          ∧ (AtRest s → r.isForfeit = true ∨ r.demand.kind = .discharge →
              OtherSlotsStand d.slot s t ∧ OnlyTableMoves s t ∧ t.dt.governing = s.dt.governing.filter (· ≠ d))
          ∧ (AtRest s → r.demand.kind = .discharge → DrawsAgree t))))
  ∧ (∀ (st : Nat) (s : State), Serving s → st = 0 ∨ 6 < st →
    exec (.retireStation st) s = .next (answered 0x04 .badArg .empty s))
  ∧ (∀ (st : Nat) (s : State), Serving s → 1 ≤ st → st ≤ 6 → s.dt.slots.length = 24 →
    ∃ t, exec (.retireStation st) s = .next t
      ∧ (∀ r ∈ t.dt.records, r.station ≠ st)
      ∧ t.cp.answer = ⟨0x04, .ok, .count (s.dt.records.countP (fun r => r.station == st))⟩
      ∧ (∀ i r, (s.dt.slot i).record = some r → r.station = st →
          t.dt.slot i = ⟨((s.dt.slot i).gen + 1) % 16, .free⟩)
      ∧ (∀ i r, (s.dt.slot i).record = some r → r.station ≠ st →
          (t.dt.slot i).gen = (s.dt.slot i).gen ∧ ∃ r', (t.dt.slot i).record = some r' ∧ r'.station = r.station
            ∧ r'.demand.kind = r.demand.kind)
      ∧ (∀ i, (s.dt.slot i).cond = .free → t.dt.slot i = s.dt.slot i)
      ∧ (∀ i, (s.dt.slot i).cond = .reserved → t.fc.lockdown = false → t.dt.slot i = s.dt.slot i))

/-- R16, R31, R34, R36, R39: retiring the last holder of an engaged take-off (PTOR, PTOA or PTOB), with nothing queued or in flight,
counts the holder gone and starts a DISENGAGE, which has no preconditions: the output is released in the same event and the shift
waits in ACTUATE for the confirm (or is already in SETTLE where the confirm shows it). The other resources, the mode, the captures,
the tanks and the presets stand. R37: the DISENGAGE of SPLIT at PUMP, appended where the last holder is retired, waits in PREPARE
with the full prep timer, SPLIT staying at PUMP, until the engine speed is at or below the engage limit, NEUTRAL is set and the
vehicle is still; where they hold at once it enters ACTUATE in the same event with the command at ROAD. R44: retiring the last
holder of a resource (SPLIT, PTOR, PTOA or PTOB) whose ENGAGE waits in PREPARE cancels that shift: the slot is free, the output was
never moved, the confirmed position takes the input's value, nothing is appended, no standard fault is reported and the record's
slot is freed. R34: where the ENGAGE is still queued, it is withdrawn. -/
def Obligations.RetireLastHolderReleasesOrCancels : Prop :=
  ∀ (q : Res) (d : Descriptor) (r : Rec) (s : State), Serving s → AtRest s → s.fc.lockdown = false → d.slot < 24 →
    s.dt.slots.length = 24 → s.dt.slot d.slot = ⟨d.gen, .occupied r⟩ → r.isForfeit = false → r.demand.resource = some q →
    (s.res q).holders = 1 → (s.res q).cut = false →
    (∀ n, s.rm.shift = some ⟨q, .engage, .prepare, n⟩ → s.rm.queue = [] → (s.res q).cmd = false →
      ∃ t, exec (.retire (some d)) s = .next t
        ∧ t.rm.shift = none ∧ t.rm.queue = [] ∧ (t.res q).holders = 0 ∧ (t.res q).cmd = false ∧ (t.res q).conf = s.input q
        ∧ (∀ p, p ≠ q → t.res p = s.res p ∨ t.fc.lockdown = true) ∧ t.fc.standard = s.fc.standard ∧ (t.dt.slot d.slot).cond = .free)
    ∧ (∀ e, s.rm.queue = [e] → e.res = q → e.op = .engage →
      ∃ t, exec (.retire (some d)) s = .next t
        ∧ t.rm = { s.rm.put q { s.res q with holders := 0 } with queue := [] } ∧ t.mc = s.mc ∧ t.fc = s.fc
        ∧ (t.dt.slot d.slot).cond = .free)
    ∧ (q ≠ .split → (s.res q).cmd = true → s.rm.shift = none → s.rm.queue = [] → s.rm.closed = false →
    ∃ t sh, exec (.retire (some d)) s = .next t
      ∧ (t.res q).holders = 0 ∧ (t.res q).cmd = false ∧ (t.res q).conf = (s.res q).conf
      ∧ t.rm.shift = some sh ∧ sh.res = q ∧ sh.op = .disengage
      ∧ (s.input q = .engaged → sh.stage = .actuate ∧ sh.timer = s.par.confirmTime)
      ∧ (s.input q = .disengaged → sh.stage = .settle ∧ sh.timer = s.par.settleTime)
      ∧ t.rm.queue = [] ∧ (∀ p, p ≠ q → t.res p = s.res p)
      ∧ t.mc = s.mc ∧ t.fc = s.fc ∧ t.tk = s.tk ∧ t.pe = s.pe)
    ∧ (q = .split → s.rm.split.cmd = true → s.rm.split.conf = .engaged → s.rm.shift = none → s.rm.queue = [] →
      s.rm.closed = false →
      let ready : Prop := s.pcu.eng.published ≤ s.par.engageLimit ∧ s.mc.accepted.neutral = true ∧ s.mc.still = true
      ∃ t sh, exec (.retire (some d)) s = .next t
        ∧ t.rm.split.holders = 0 ∧ t.rm.split.conf = .engaged ∧ t.rm.queue = [] ∧ (∀ p, p ≠ .split → t.res p = s.res p)
        ∧ t.rm.shift = some sh ∧ sh.res = .split ∧ sh.op = .disengage ∧ t.fc = s.fc ∧ (t.dt.slot d.slot).cond = .free
        ∧ (s.mc.derived = true → t.mc.mode = .shifting)
        ∧ (¬ready → t.rm.split.cmd = true ∧ sh.stage = .prepare ∧ sh.timer = s.par.prepTimeout * 1000)
        ∧ (ready → t.rm.split.cmd = false
          ∧ (s.mc.splitPos ≠ .disengaged → sh.stage = .actuate ∧ sh.timer = s.par.confirmTime)
          ∧ (s.mc.splitPos = .disengaged → sh.stage = .settle ∧ sh.timer = s.par.settleTime)))

/-- R18, R2, R7: QUERY gives the named record with its error indication, and with the clear flag clears its changed flag and
nothing else; R2: a FREE or RESERVED slot or another generation is STALE with the slot's condition and generation, a slot
over 23 BAD_ARG. R19: FIND answers, in ascending slot order, exactly the descriptors of the records that match the station, the
kind, the state set and the changed-only filter; with the clear flag it clears the changed flag of each record returned and of no
other. A station of 7 or an empty state set is BAD_ARG. -/
def Obligations.QueryAndFindReadRecords : Prop :=
  (∀ (clear : Bool) (d : Descriptor) (s : State), Serving s → s.dt.slots.length = 24 →
    (23 < d.slot → exec (.query clear (some d)) s = .next (answered 0x05 .badArg .empty s))
    ∧ (d.slot < 24 →
      ((s.dt.slot d.slot).cond = .free → exec (.query clear (some d)) s
          = .next (answered 0x05 .stale (.stale .free (s.dt.slot d.slot).gen) s))
      ∧ ((s.dt.slot d.slot).cond = .reserved → exec (.query clear (some d)) s
          = .next (answered 0x05 .stale (.stale .reserved (s.dt.slot d.slot).gen) s))
      ∧ (∀ r, (s.dt.slot d.slot).cond = .occupied r → (s.dt.slot d.slot).gen ≠ d.gen → exec (.query clear (some d)) s
          = .next (answered 0x05 .stale (.stale .occupied (s.dt.slot d.slot).gen) s))
      ∧ (∀ r, s.dt.slot d.slot = ⟨d.gen, .occupied r⟩ →
          let error := (match r.state with
              | .forfeit _ => true
              | _ => false)
            || r.reasons.noPump || r.reasons.tankEmpty || r.reasons.overspeed || r.reasons.speedCut || r.reasons.critical
          let slot : Slot := if clear then ⟨d.gen, .occupied { r with changed := false }⟩ else ⟨d.gen, .occupied r⟩
          exec (.query clear (some d)) s = .next (answered 0x05 .ok (.queried r error)
            { s with dt := { s.dt with slots := s.dt.slots.set d.slot slot } }))))
  ∧ (∀ (st : Nat) (clear : Bool) (f : FindFilter) (s : State), Serving s →
    let hit : Rec → Bool := fun r =>
      (st == 0 || r.station == st) && (f.kind == none || f.kind == some r.demand.kind)
        && (match r.state with
          | .queued => f.states.queued
          | .engaging => f.states.engaging
          | .active => f.states.active
          | .held => f.states.held
          | .forfeit _ => f.states.forfeit)
        && (!f.changedOnly || r.changed)
    (7 ≤ st ∨ f.states = ⟨false, false, false, false, false⟩ →
      exec (.find st clear (some f)) s = .next (answered 0x06 .badArg .empty s))
    ∧ (st < 7 → f.states ≠ ⟨false, false, false, false, false⟩ → ∃ t ds, exec (.find st clear (some f)) s = .next t
      ∧ t.cp = (answered 0x06 .ok (.found ds) s).cp
      ∧ ds = (List.range s.dt.slots.length).filterMap (fun i =>
          match (s.dt.slot i).record with
          | some r => if hit r then some ⟨i, (s.dt.slot i).gen⟩ else none
          | none => none)
      ∧ (∀ i, t.dt.slot i = match (s.dt.slot i).cond with
          | .occupied r => if clear && hit r then ⟨(s.dt.slot i).gen, .occupied { r with changed := false }⟩ else s.dt.slot i
          | _ => s.dt.slot i)
      ∧ t.dt.governing = s.dt.governing ∧ OnlyTableMoves s t ∧ t.tk = s.tk ∧ t.pg = s.pg))

/-- R82, R83, R2: RENEW's checks in order, a refused RENEW changing nothing but the answer: a slot over 23, lockdown, a descriptor
that names no live record, another kind, another station, a FORFEIT record. An accepted one restarts the lease with the lease
period, removes LEASE, applies the service rule, keeps the order of the governing list and the record's changed flag, and answers
with the state, the reasons and the lease remaining. The expiry of a lease that had just run out does not happen then: the mark
that says so is the model's (log 2). -/
def Obligations.RenewRestartsTheLease : Prop :=
  ∀ (st : Nat) (d : Descriptor) (s : State), Serving s → s.dt.slots.length = 24 →
    let refused : Result → Body → Prop := fun r body => exec (.renew st (some d)) s = .next (answered 0x07 r body s)
    (23 < d.slot → refused .badArg .empty)
    ∧ (d.slot < 24 → s.fc.lockdown = true → refused .lockdown .empty)
    ∧ (d.slot < 24 → s.fc.lockdown = false →
        ((s.dt.slot d.slot).cond = .free → refused .stale (.stale .free (s.dt.slot d.slot).gen))
        ∧ ((s.dt.slot d.slot).cond = .reserved → refused .stale (.stale .reserved (s.dt.slot d.slot).gen))
        ∧ (∀ r, (s.dt.slot d.slot).cond = .occupied r → (s.dt.slot d.slot).gen ≠ d.gen →
            refused .stale (.stale .occupied (s.dt.slot d.slot).gen)))
    ∧ (∀ r, d.slot < 24 → s.fc.lockdown = false → s.dt.slot d.slot = ⟨d.gen, .occupied r⟩ →
        (r.demand.kind ≠ .pumpRoll → refused .badArg .empty)
        ∧ (r.demand.kind = .pumpRoll → r.station ≠ st → refused .notOwner .empty)
        ∧ (r.demand.kind = .pumpRoll → r.station = st → r.isForfeit = true → refused .notPermitted .empty)
        ∧ (r.demand.kind = .pumpRoll → r.station = st → r.isForfeit = false → AtRest s →
          let reasons : Reasons := { r.reasons with lease := false }
          let state : RecState :=
            if !reasons.isNone then .held else if s.rm.ready .ptor then .active
            else if s.rm.engageOf .ptor || s.rm.returnedEngage .ptor then .engaging else .queued
          let lease : Lease := ⟨s.par.leasePeriod, true, r.lease.overtaken || (r.lease.running && r.lease.remaining == 0)⟩
          ∃ t, exec (.renew st (some d)) s = .next t
            ∧ t.dt = ⟨s.dt.slots.set d.slot (⟨d.gen, .occupied
                  { r with reasons := reasons, lease := lease, state := state }⟩ : Slot), s.dt.governing⟩
            ∧ OnlyTableMoves s t ∧ t.tk = s.tk ∧ (t.dt.governingDemand.isSome = true → t.pg = s.pg)
            ∧ t.cp = (answered 0x07 .ok (.renewed state reasons s.par.leasePeriod) s).cp))

/-- R81, R23, R21: a running lease that expires stops at 0 and its record gains LEASE and is HELD, with its changed flag set
and DEMAND_CHANGED raised where it was clear. The other records, the resources, the tanks and the rest of the Command Port stand.
R79, R129: where the governing list loses its last ACTIVE record by it, a governor that is not OFF passes to IDLE_HOLD with THRMODE
OFF in every mode but PUMP, where it is FULL; otherwise the governor stands. A lease that does not run expires in nothing. R83: the
expiry that a RENEW or an AMEND has overtaken does not happen: the model's mark of it goes (log 2) and nothing else moves. -/
def Obligations.LeaseExpiryHoldsTheRecord : Prop :=
  ∀ (i : Nat) (r : Rec) (s : State), i < 24 → s.dt.slots.length = 24 → (s.dt.slot i).record = some r →
    (r.lease.overtaken = true → exec (.leaseExpiry i) s = .next { s with dt := { s.dt with
      slots := s.dt.slots.set i ⟨(s.dt.slot i).gen, .occupied { r with lease := { r.lease with overtaken := false } }⟩ } })
    ∧ (r.lease.overtaken = false → r.lease.running = false → exec (.leaseExpiry i) s = .next s)
    ∧ (AtRest s → r.isForfeit = false → r.lease.overtaken = false → r.lease.running = true → r.reasons.lease = false →
      let raised : AttSet := { s.cp.flags with demandChanged := true }
      let lost (t : State) : Prop := s.dt.governingDemand.isSome = true ∧ t.dt.governingDemand = none ∧ s.pg.state ≠ .off
      ∃ t, exec (.leaseExpiry i) s = .next t
        ∧ (t.dt.slot i).record = some { r with
            lease := ⟨0, false, false⟩, reasons := { r.reasons with lease := true }, state := .held, changed := true }
        ∧ (t.dt.slot i).gen = (s.dt.slot i).gen
        ∧ (r.changed = true → t.cp = s.cp)
        ∧ (r.changed = false → t.cp = { s.cp with flags := raised, attn := attnLevel raised s.cp.mask })
        ∧ OtherSlotsStand i s t ∧ t.dt.governing = s.dt.governing ∧ OnlyTableMoves s t ∧ t.tk = s.tk
        ∧ (lost t → t.pg = { s.pg with
            state := .idleHold, governing := none, thrMode := if s.mc.mode = .pump then .full else .off })
        ∧ (¬lost t → t.pg = s.pg))

/-! ## Drive resources -/

/-- R41, R22, R30, R66, R69: a SPLIT ENGAGE whose settle timer expires with the split position at PUMP is DONE. SPLIT is
confirmed at PUMP and ready, the slot is free, the pump path is engaged, and every non-FORFEIT PUMP_STAT record without a
reason is ACTIVE; with PARK set and the wheels at rest the mode is PUMP with PARKHOLD on and RANGE PUMP_ONLY, and no fault is
captured. -/
def Obligations.SplitEngageDone : Prop :=
  ∀ (n : Nat) (s : State), s.rm.shift = some ⟨.split, .engage, .settle, n⟩ → s.rm.queue = [] → s.cp.resync = false →
    s.fc.lockdown = false → s.mc.derived = true → s.mc.splitPos = .engaged → s.rm.split.cmd = true → 0 < s.rm.split.holders →
    s.rm.split.cut = false → s.mc.accepted.park = true → s.pcu.roadSum ≤ s.par.motionTolerance → LockoutsAgree s →
    ∃ t, exec .settleExpiry s = .next t
      ∧ t.rm.shift = none ∧ t.rm.queue = [] ∧ t.rm.split.conf = .engaged ∧ t.rm.split.cmd = true
      ∧ t.rm.split.orphan = false ∧ t.rm.ready .split = true ∧ t.rm.pumpPath = true ∧ t.rm.ptor.cmd = s.rm.ptor.cmd
      ∧ t.mc.mode = .pump ∧ t.mc.parkhold = true ∧ t.mc.range = .pumpOnly ∧ t.fc = s.fc
      ∧ (∀ i r, (s.dt.slot i).record = some r → r.demand.kind = .pumpStat → r.isForfeit = false → r.reasons = Reasons.none →
          ∃ r', (t.dt.slot i).record = some r' ∧ r'.state = .active)

/-- R41, R22, R28, R145: a take-off's ENGAGE (PTOR, PTOA or PTOB) whose settle timer expires with its confirm at ENGAGED is DONE: it
is confirmed, its orphan flag is clear, the slot is free and it is ready. Every holder of it that carries no reason is ACTIVE,
unless a critical fault or lockdown takes it in the same event. Where it is PTOA that has become confirmed, every foam part takes
the suspension of R145, and the draws and valves that stood right stand right after (R143, R146, R147). A DISENGAGE whose settle
timer expires with the confirm at the disengaged position is DONE without a word to the records: the slot is free and the resource
confirmed there. -/
def Obligations.TakeOffShiftsDone : Prop :=
  ∀ (q : Res) (n : Nat) (s : State), s.rm.queue = [] → s.cp.resync = false → s.fc.lockdown = false →
    (q ≠ .split → s.rm.shift = some ⟨q, .engage, .settle, n⟩ → s.input q = .engaged → (s.res q).cmd = true →
      0 < (s.res q).holders → (s.res q).cut = false →
      ∃ t, exec .settleExpiry s = .next t
        ∧ (t.res q).conf = .engaged ∧ (t.res q).orphan = false ∧ t.rm.shift = none ∧ t.rm.queue = []
        ∧ (t.fc.lockdown = false → (t.res q).cmd = true ∧ t.rm.ready q = true)
        ∧ (t.fc.lockdown = false → t.fc.critical = s.fc.critical → ∀ i r, (s.dt.slot i).record = some r →
            r.holds q = true → r.reasons = Reasons.none → ∃ r', (t.dt.slot i).record = some r' ∧ r'.state = .active)
        ∧ (q = .ptoa → s.rm.ptoa.conf ≠ .engaged → ∀ i r f, (t.dt.slot i).record = some r → r.isForfeit = false →
            r.demand.foam = some f → f.susp = suspensionBy t f.tank)
        ∧ (DrawsAgree s → DrawsAgree t))
    ∧ (s.rm.shift = some ⟨q, .disengage, .settle, n⟩ → s.input q = .disengaged → (s.res q).cmd = false →
      (s.res q).holders = 0 →
      ∃ t, exec .settleExpiry s = .next t
        ∧ (t.res q).conf = .disengaged ∧ (t.res q).cmd = false ∧ t.rm.shift = none ∧ t.rm.queue = []
        ∧ (t.fc.lockdown = false → t.fc.critical = s.fc.critical → ∀ i r, (s.dt.slot i).record = some r →
            r.isDischarge = false → ∃ r', (t.dt.slot i).record = some r' ∧ r'.state = r.state ∧ r'.reasons = r.reasons))

/-- R42, R22, R9, R25, R164: an ENGAGE that fails on its prep timeout makes every non-FORFEIT holder of its resource FORFEIT with
PREP_TIMEOUT (with LOCKDOWN where the event ends in lockdown), empties their reasons, leaves the output as it was where nothing
waits in the queue, and captures SHIFT_PREP_TIMEOUT with the resource in an empty standard slot. R43, R35: a SPLIT DISENGAGE that
fails so with nothing else queued keeps SPLIT commanded PUMP, is captured in the same way, touches no record but a DISCHARGE's and
takes the slot again at once with a fresh prep timer. -/
def Obligations.PrepTimeoutFailsTheShift : Prop :=
  (∀ (sh : Shift) (s : State), s.rm.shift = some sh → sh.op = .engage → sh.stage = .prepare → s.cp.resync = false →
    ∃ t, exec .prepTimeout s = .next t
      ∧ (∀ i r, (s.dt.slot i).record = some r → r.holds sh.res = true → ∃ r' why, (t.dt.slot i).record = some r'
          ∧ r'.state = .forfeit why ∧ r'.reasons = Reasons.none ∧ r'.lease.running = false
          ∧ (t.fc.lockdown = false → why = .prepTimeout)
          ∧ (s.fc.lockdown = false → t.fc.lockdown = true → why = .lockdown))
      ∧ (s.fc.standard = none → ∃ c, t.fc.standard = some c ∧ c.cause = .shiftPrepTimeout ∧ c.res = some sh.res
          ∧ t.cp.flags.standard = true)
      ∧ (s.rm.queue = [] → (s.res sh.res).cmd = false → (s.res sh.res).holders = s.dt.holdersOf sh.res →
          t.rm.shift = none ∧ (t.res sh.res).cmd = false ∧ (t.res sh.res).holders = 0
            ∧ (t.res sh.res).conf = s.input sh.res))
  ∧ (∀ (n : Nat) (s : State), s.rm.shift = some ⟨.split, .disengage, .prepare, n⟩ → s.rm.queue = [] → s.rm.closed = false →
    s.cp.resync = false → s.fc.lockdown = false → s.rm.split.cmd = true → s.rm.split.holders = 0 →
    s.preconditions .split .disengage = false →
    ∃ t, exec .prepTimeout s = .next t
      ∧ t.rm.shift = some ⟨.split, .disengage, .prepare, s.par.prepTimeout * 1000⟩ ∧ t.rm.queue = []
      ∧ t.rm.split.cmd = true ∧ t.rm.split.conf = s.mc.splitPos
      ∧ (s.fc.standard = none → ∃ c, t.fc.standard = some c ∧ c.cause = .shiftPrepTimeout ∧ c.res = some .split
          ∧ t.cp.flags.standard = true)
      ∧ (∀ i r, (s.dt.slot i).record = some r → r.isDischarge = false → ∃ r', (t.dt.slot i).record = some r'
          ∧ r'.state = r.state ∧ r'.reasons = r.reasons))

/-- R42, R43, R22, R9, R25: an ENGAGE that fails on its confirm expiry is driven back to its disengaged position, its non-FORFEIT
holders become FORFEIT with NO_CONFIRM (with LOCKDOWN where the event ends in lockdown), and SHIFT_NO_CONFIRM is captured in an
empty standard slot. A DISENGAGE that fails keeps its command: SPLIT short of ROAD becomes stuck and is the critical fault
SPLIT_STUCK, which fills an empty critical slot and is lockdown on a filled one (R165, R166); a take-off is the standard fault
PTO_LOST. -/
def Obligations.ConfirmExpiryFailsTheShift : Prop :=
  ∀ (sh : Shift) (s : State), s.rm.shift = some sh → sh.stage = .actuate → s.cp.resync = false → s.rm.queue = [] →
    (sh.op = .engage → (s.res sh.res).holders = s.dt.holdersOf sh.res → ∃ t, exec .confirmExpiry s = .next t
      ∧ (t.res sh.res).cmd = false ∧ t.rm.shift = none ∧ (t.res sh.res).conf = s.input sh.res ∧ (t.res sh.res).holders = 0
      ∧ (∀ i r, (s.dt.slot i).record = some r → r.holds sh.res = true → ∃ r' why, (t.dt.slot i).record = some r'
          ∧ r'.state = .forfeit why ∧ (t.fc.lockdown = false → why = .noConfirm)
          ∧ (s.fc.lockdown = false → t.fc.lockdown = true → why = .lockdown))
      ∧ (s.fc.standard = none → ∃ c, t.fc.standard = some c ∧ c.cause = .shiftNoConfirm ∧ c.res = some sh.res))
    ∧ (sh.op = .disengage → (s.res sh.res).holders = 0 → (s.res sh.res).cmd = false → ∃ t, exec .confirmExpiry s = .next t
      ∧ (t.res sh.res).cmd = false ∧ t.rm.shift = none ∧ (t.res sh.res).conf = s.input sh.res
      ∧ (sh.res = .split → s.mc.splitPos ≠ .disengaged →
          t.rm.stuck = true ∧ (s.fc.lockdown = false →
            (s.fc.critical = none → ∃ c, t.fc.critical = some c ∧ c.cause = .splitStuck ∧ c.res = some .split)
            ∧ (s.fc.critical.isSome = true → t.fc.lockdown = true ∧ t.mc.mode = .lockdown)))
      ∧ (sh.res ≠ .split → s.fc.standard = none →
          ∃ c, t.fc.standard = some c ∧ c.cause = .ptoLost ∧ c.res = some sh.res))

/-- R45, R22, R25: the drift timer of a take-off commanded ENGAGED that expires with its watch armed makes the non-FORFEIT holders
FORFEIT with PATH_LOST (with LOCKDOWN where the event ends in lockdown) and reports PTO_LOST. One commanded DISENGAGED reports
PTO_LOST and, in a part at rest, leaves every record, the command and all but the capture as they were, its watch disarmed. SPLIT's
reports the critical fault SPLIT_LOST, which is lockdown on a filled critical slot (R165, R166), and leaves the command. The timer
of a disarmed watch only stops, and a stopped timer expires in nothing. The watch itself, at a sample that changes an accepted level
with no shift in flight and nothing queued: where the new position of a take-off is the commanded one, its timer stops and its watch
is armed, and where the event ends with the two apart all the same (lockdown has moved the command), the timer runs anew with the
confirm time; where the position goes off the command, an armed watch starts a stopped timer and a running one runs on. -/
def Obligations.DriftExpiryReports : Prop :=
  (∀ (l : Inputs) (r : Res) (s : State), s.mc.sampleTimer.isSome = true → s.mc.inited = true → s.ps.validated = true →
    s.rm.shift = none → s.rm.queue = [] → s.cp.resync = false → r ≠ .split →
    ∃ t, exec (.inputSample l) s = .next t ∧ (t.mc.accepted ≠ s.mc.accepted →
      let off : State → Prop := fun u => (u.res r).conf ≠ (if (u.res r).cmd then Pos.engaged else Pos.disengaged)
      let began : Option Nat := some (s.par.confirmTime)
      let back : Prop := t.input r = (if (s.res r).cmd then Pos.engaged else Pos.disengaged)
      (back → (t.res r).driftArmed = true ∧ (off t → (t.res r).driftTimer = began) ∧ (¬off t → (t.res r).driftTimer = none))
      ∧ (¬back → off t → (t.res r).driftArmed = (s.res r).driftArmed
          ∧ (t.res r).driftTimer = (if (s.res r).driftTimer = none ∧ (s.res r).driftArmed = true then began
              else (s.res r).driftTimer))))
  ∧ ∀ (r : Res) (s : State),
    ((s.res r).driftTimer = none → exec (.driftExpiry r) s = .next s)
    ∧ (AtRest s → (s.res r).driftTimer.isSome = true → (s.res r).driftArmed = false → s.driftCondition r = true →
      exec (.driftExpiry r) s = .next (s.setRes r { s.res r with driftTimer := none }))
    ∧ ((s.res r).driftTimer.isSome = true → (s.res r).driftArmed = true → s.cp.resync = false →
      ∃ t, exec (.driftExpiry r) s = .next t
        ∧ (r ≠ .split → s.fc.standard = none → ∃ c, t.fc.standard = some c ∧ c.cause = .ptoLost ∧ c.res = some r)
        ∧ (r ≠ .split → (s.res r).cmd = true → ∀ i q, (s.dt.slot i).record = some q → q.holds r = true →
            ∃ q' why, (t.dt.slot i).record = some q' ∧ q'.state = .forfeit why ∧ (t.fc.lockdown = false → why = .pathLost)
              ∧ (s.fc.lockdown = false → t.fc.lockdown = true → why = .lockdown))
        ∧ (r ≠ .split → (s.res r).cmd = false → AtRest s → s.driftCondition r = true →
            t.dt = s.dt ∧ t.rm = s.rm.put r { s.res r with driftTimer := none, driftArmed := false } ∧ OnlyWatchMoves s t
            ∧ t.fc.critical = s.fc.critical ∧ t.fc.lockdown = s.fc.lockdown)
        ∧ (r = .split → t.rm.split.cmd = s.rm.split.cmd)
        ∧ (r = .split → s.fc.lockdown = false →
            (s.fc.critical = none → ∃ c, t.fc.critical = some c ∧ c.cause = .splitLost ∧ c.res = some .split)
            ∧ (s.fc.critical.isSome = true → t.fc.lockdown = true ∧ t.mc.mode = .lockdown)))

/-- R51, R36: when the adoption window expires, every orphan loses its flag and gets a DISENGAGE entry, in the order SPLIT,
PTOR, PTOA, PTOB; with nothing queued or in flight the first takes the slot at once. A stopped window expires in nothing. -/
def Obligations.AdoptionWindowReleasesOrphans : Prop :=
  ∀ s : State,
    (s.rm.adoption = none → exec .adoptionWindowExpiry s = .next s)
    ∧ (s.rm.adoption.isSome = true → s.cp.resync = false → ∃ t, exec .adoptionWindowExpiry s = .next t
      ∧ t.rm.adoption = none ∧ (∀ r, (t.res r).orphan = false)
      ∧ (t.fc.lockdown = false → s.rm.shift = none → s.rm.queue = [] → s.rm.closed = false →
          let orphans := allRes.filter (fun r => (s.res r).orphan)
          t.rm.shift.map (fun sh => (sh.res, sh.op)) = orphans.head?.map (fun r => (r, ShiftOp.disengage))
            ∧ t.rm.queue = orphans.tail.map (fun r => ⟨r, .disengage, false⟩)))

/-- R47: the slip timer of an armed watch that expires under a VALID profile reports PUMP_SLIP with resource SPLIT and disarms the
watch; the timer of a disarmed watch only stops, and so, as the model has it (log 25), does that of an armed watch under a profile
that is not VALID; the re-arm timer's expiry arms the watch, under a profile that is not VALID too, which is the model's choice (log
47); a stopped timer expires in nothing. Where the standard slot is filled PUMP_SLIP joins the also set, if it is not there, at its
end: R161 calls that a set, and its order is the model's choice (log 48). Nothing else changes but the capture. An evaluation at a
speed window under a VALID profile finds slip while the mode is PUMP, PUMPRANGE is set, the engine turns at idle + 200 rpm or more,
and the pump speed is off the expected one by more than the allowance: it starts a stopped slip timer with 2 s and stops the re-arm
timer; one that finds none stops the slip timer and, for a disarmed watch, starts a stopped re-arm timer with 2 s. Under a profile
that is not VALID the watch stands. -/
def Obligations.PumpSlipWatch : Prop :=
  (∀ s : State,
    (s.rm.slipTimer.isSome = true → s.rm.slipArmed = true → s.ps.validity = .valid →
      ∃ t, exec .slipExpiry s = .next t ∧ t.rm = { s.rm with slipTimer := none, slipArmed := false } ∧ OnlyWatchMoves s t
        ∧ (s.fc.standard = none → ∃ c, t.fc = { s.fc with standard := some c } ∧ c.cause = .pumpSlip ∧ c.res = some .split
            ∧ t.cp = { s.cp with
                flags := { s.cp.flags with standard := true }
                attn := attnLevel { s.cp.flags with standard := true } s.cp.mask })
        ∧ (s.fc.standard.isSome = true → t.cp = s.cp ∧ t.fc = { s.fc with
            also := if s.fc.also.contains .pumpSlip then s.fc.also else s.fc.also ++ [.pumpSlip] }))
    ∧ (s.rm.slipTimer.isSome = true → s.rm.slipArmed = false ∨ s.ps.validity ≠ .valid →
      exec .slipExpiry s = .next { s with rm := { s.rm with slipTimer := none } })
    ∧ (s.rm.rearmTimer.isSome = true →
      exec .rearmExpiry s = .next { s with rm := { s.rm with rearmTimer := none, slipArmed := true } })
    ∧ (s.rm.slipTimer = none → exec .slipExpiry s = .next s) ∧ (s.rm.rearmTimer = none → exec .rearmExpiry s = .next s))
  ∧ (∀ s : State, s.pcu.windowTimer.isSome = true → ∃ t, exec .speedWindow s = .next t
    ∧ t.rm.slipArmed = s.rm.slipArmed
    ∧ (let e := t.pcu.eng.published
       let m := t.pcu.pump.published
       let expected := e * s.par.ratioNum / s.par.ratioDen
       let slips : Prop := s.mc.mode = .pump ∧ s.mc.accepted.pumprange = true ∧ s.par.idle + 200 ≤ e
         ∧ ((expected * s.par.slipTolerance / 100 : Nat) : Int) < |(m : Int) - expected|
       (s.ps.validity ≠ .valid → t.rm.slipTimer = s.rm.slipTimer ∧ t.rm.rearmTimer = s.rm.rearmTimer)
       ∧ (s.ps.validity = .valid → slips → t.rm.slipTimer = some (s.rm.slipTimer.getD 2000) ∧ t.rm.rearmTimer = none)
       ∧ (s.ps.validity = .valid → ¬slips → t.rm.slipTimer = none
          ∧ t.rm.rearmTimer = (if s.rm.slipArmed then s.rm.rearmTimer else some (s.rm.rearmTimer.getD 2000)))))

/-! ## Modes and discrete inputs -/

/-- R58: every later sample passes each input through its debouncer: an equal sample clears the run, a differing one adds to it
and is accepted at the count N in use; the timer starts again with 5 ms. R60: a sample that accepts nothing changes nothing
more. -/
def Obligations.InputSampleDebounces : Prop :=
  ∀ (l : Inputs) (s : State), s.mc.sampleTimer.isSome = true → s.mc.inited = true →
    let next : Bool → Debouncer → Debouncer := fun x d =>
      if x = d.level then ⟨d.level, 0⟩ else if s.par.debounce ≤ d.run + 1 then ⟨x, 0⟩ else ⟨d.level, d.run + 1⟩
    let deb : Eight Debouncer := ⟨next l.park s.mc.deb.park, next l.neutral s.mc.deb.neutral,
      next l.pumprange s.mc.deb.pumprange, next l.shroad s.mc.deb.shroad, next l.shpump s.mc.deb.shpump,
      next l.ptorOn s.mc.deb.ptorOn, next l.ptoaOn s.mc.deb.ptoaOn, next l.ptobOn s.mc.deb.ptobOn⟩
    ∃ t, exec (.inputSample l) s = .next t
      ∧ t.mc.deb = deb ∧ t.mc.sampleTimer = some 5 ∧ t.sys = { s.sys with lines := l } ∧ t.mc.inited = true
      ∧ ((∀ x y, (x, y) ∈ [(deb.park, s.mc.deb.park), (deb.neutral, s.mc.deb.neutral), (deb.pumprange, s.mc.deb.pumprange),
            (deb.shroad, s.mc.deb.shroad), (deb.shpump, s.mc.deb.shpump), (deb.ptorOn, s.mc.deb.ptorOn),
            (deb.ptoaOn, s.mc.deb.ptoaOn), (deb.ptobOn, s.mc.deb.ptobOn)] → x.level = y.level) →
          t = { s with mc := { s.mc with deb := deb, sampleTimer := some 5 }, sys := { s.sys with lines := l } })

/-- R59, R192 stage 2, R191: the first sample after a reset sets the accepted levels to the lines without debouncing and starts
the validation timer with 30 ms; while the sample timer is stopped there is no sample. Until that sample the drive outputs follow
the lines: SHIFT drives PUMP exactly while SHPUMP is set and SHROAD clear, PTOR drives ENGAGED while its confirm line is set
unless SHIFT drives PUMP, PTOA and PTOB follow their confirm lines. Later the lines alone move no output. From that sample until
orphan marking the drive outputs follow the debounced inputs in the same way, at the first sample and at each later one that
changes an accepted level, unless that very sample leaves the part in lockdown; a sample that changes none moves no output. -/
def Obligations.LinesBeforeAndAtTheFirstSample : Prop :=
  ∀ (l : Inputs) (s : State),
    let nothingMoves : Prop := s.rm.shift = none ∧ s.rm.queue = []
    let follows : Inputs → State → Prop := fun x t =>
      t.rm.split.cmd = (x.shpump && !x.shroad) ∧ t.rm.ptor.cmd = (x.ptorOn && !(x.shpump && !x.shroad))
        ∧ t.rm.ptoa.cmd = x.ptoaOn ∧ t.rm.ptob.cmd = x.ptobOn
    (s.mc.sampleTimer = none → exec (.inputSample l) s = .next s)
    ∧ (s.mc.sampleTimer.isSome = true → s.mc.inited = false → ∃ t, exec (.inputSample l) s = .next t
      ∧ t.mc.accepted = l ∧ t.mc.inited = true ∧ t.mc.deb.park.run = 0 ∧ t.mc.deb.shpump.run = 0
      ∧ t.ps = { s.ps with validationTimer := some 30 } ∧ t.mc.sampleTimer = some 5
      ∧ t.mc.splitPos = (if l.shroad = true ∧ l.shpump = false then .disengaged
          else if l.shpump = true ∧ l.shroad = false then .engaged else .unknown)
      ∧ (nothingMoves → t.fc.lockdown = false → follows l t))
    ∧ (s.mc.sampleTimer.isSome = true → s.mc.inited = true → s.ps.validated = false → nothingMoves →
      ∃ t, exec (.inputSample l) s = .next t
        ∧ (t.mc.accepted ≠ s.mc.accepted → t.fc.lockdown = false → follows t.mc.accepted t)
        ∧ (t.mc.accepted = s.mc.accepted → t.rm = s.rm))
    ∧ (s.sys.resetActive = true ∨ s.mc.inited = false →
      exec (.driveOutputsFollowLines l) s = .next { s with
        sys := { s.sys with lines := l }
        rm := { s.rm with
          split := { s.rm.split with cmd := l.shpump && !l.shroad }
          ptor := { s.rm.ptor with cmd := l.ptorOn && !(l.shpump && !l.shroad) }
          ptoa := { s.rm.ptoa with cmd := l.ptoaOn }
          ptob := { s.rm.ptob with cmd := l.ptobOn } } })
    ∧ (s.sys.resetActive = false → s.mc.inited = true →
      exec (.driveOutputsFollowLines l) s = .next { s with sys := { s.sys with lines := l } })

/-- R60, R28: a sample that changes an accepted level makes the confirmed position of every resource with no shift in flight that
of its confirm input. R37, R38, R39, R40: it moves the shift in flight by its stage, unless the same event brings lockdown. In
PREPARE, where the preconditions of the operation now hold, the output is driven and the shift enters ACTUATE with the confirm
timeout, and SETTLE at once where the confirm shows the new position already; where they do not hold it stays. In ACTUATE it enters
SETTLE with the settle time when the confirm shows the new position. In SETTLE it goes back to ACTUATE with the confirm timeout
when the confirm leaves it. Otherwise the shift, its timer and its output stand. -/
def Obligations.InputChangeMovesTheShift : Prop :=
  ∀ (l : Inputs) (s : State), s.mc.sampleTimer.isSome = true → s.mc.inited = true → s.ps.validated = true →
    ∃ t, exec (.inputSample l) s = .next t
      ∧ (let acc := t.mc.accepted
         let shown : Res → Pos := fun r => match r with
           | .split => if acc.shroad = true ∧ acc.shpump = false then .disengaged
               else if acc.shpump = true ∧ acc.shroad = false then .engaged else .unknown
           | .ptor => if acc.ptorOn then .engaged else .disengaged
           | .ptoa => if acc.ptoaOn then .engaged else .disengaged
           | .ptob => if acc.ptobOn then .engaged else .disengaged
         let slow : Prop := s.pcu.eng.published ≤ s.par.engageLimit ∧ acc.neutral = true ∧ s.mc.still = true
         let holds : Res → ShiftOp → Prop := fun r op => match r, op with
           | .split, .engage => slow ∧ acc.park = true ∧ acc.ptorOn = false ∧ s.rm.ptor.cmd = false
           | .split, .disengage => slow
           | .ptor, .engage => slow ∧ acc.park = true ∧ shown .split = .disengaged ∧ s.rm.split.cmd = false
           | .ptoa, .engage => slow
           | .ptob, .engage => slow
           | _, .disengage => True
         acc ≠ s.mc.accepted →
          (∀ r, s.rm.shiftOf r = false → (t.res r).conf = shown r)
          ∧ (∀ sh, s.rm.shift = some sh → t.fc.lockdown = false →
            let there : Prop := shown sh.res = (match sh.op with
              | .engage => .engaged
              | .disengage => .disengaged)
            let stands : Prop := t.rm.shift = some sh ∧ (t.res sh.res).cmd = (s.res sh.res).cmd
            let settles : Prop := t.rm.shift = some ⟨sh.res, sh.op, .settle, s.par.settleTime⟩
            let actuates : Prop := t.rm.shift = some ⟨sh.res, sh.op, .actuate, s.par.confirmTime⟩
            (t.res sh.res).conf = (s.res sh.res).conf
            ∧ (sh.stage = .prepare → ¬holds sh.res sh.op → stands)
            ∧ (sh.stage = .prepare → holds sh.res sh.op →
                (t.res sh.res).cmd = (sh.op == .engage) ∧ (there → settles) ∧ (¬there → actuates))
            ∧ (sh.stage = .actuate → (there → settles ∧ (t.res sh.res).cmd = (s.res sh.res).cmd) ∧ (¬there → stands))
            ∧ (sh.stage = .settle → (¬there → actuates ∧ (t.res sh.res).cmd = (s.res sh.res).cmd) ∧ (there → stands))))

/-- R46, R73, R72: the three critical conditions that a sample or a publication finds. R46: after a sample that changes an accepted
level the path-both episode is open exactly while the split position is PUMP and PTOR's confirm is ENGAGED; one that begins is the
critical fault PATH_BOTH with no resource. The first sample after a reset is tested in the same way: a part found with SPLIT at PUMP
and PTOR_ON set is PATH_BOTH in that event, the episode being clear before it as a reset leaves it (log 5), and any other sample
reports nothing. R73: while stationary pumping holds, PARK clear opens the park episode and is the critical fault PARK_RELEASED;
PARK set ends the episode. R72: at a publication during stationary pumping a road ring sum above the motion tolerance opens the
motion episode and is WHEEL_MOTION; one at or below it ends the episode. None of the three reports a second time in an episode:
while its condition stands with the episode open, the captures are as they were. R165, R166: each fills an empty critical slot and
is lockdown on a filled one. That a sample which changes an accepted level during stationary pumping does not evaluate the motion
watch, as R72 lists and against a plain reading of R60 step 3, is the model's choice (log 49). -/
def Obligations.PathBothAndPumpingWatches : Prop :=
  (∀ (l : Inputs) (s : State), s.mc.sampleTimer.isSome = true → s.mc.inited = true →
    ∃ t, exec (.inputSample l) s = .next t
      ∧ (let acc := t.mc.accepted
         let both : Prop := acc.shpump = true ∧ acc.shroad = false ∧ acc.ptorOn = true
         acc ≠ s.mc.accepted →
          (t.rm.pathBoth = true ↔ both)
          ∧ (both → s.rm.pathBoth = false → s.fc.lockdown = false →
            (s.fc.critical = none → ∃ c, t.fc.critical = some c ∧ c.cause = .pathBoth ∧ c.res = none)
            ∧ (s.fc.critical.isSome = true → t.fc.lockdown = true ∧ t.mc.mode = .lockdown))
          ∧ (both → s.rm.pathBoth = true → s.mc.sp = true → acc.park = true ∨ s.mc.parkEp = true → s.rm.shift = none →
            s.cp.resync = false → t.fc = s.fc)
          ∧ (s.mc.sp = true → s.mc.parkEp = true → acc.park = false → ¬both → s.rm.shift = none → s.cp.resync = false →
            t.fc = s.fc)
          ∧ (s.mc.derived = true → (t.mc.parkEp = true ↔ t.mc.sp = true ∧ acc.park = false))
          ∧ (s.mc.derived = true → s.ps.validated = true → s.mc.sp = true → s.mc.parkEp = false → s.rm.shift = none →
            s.cp.resync = false → s.fc.lockdown = false → acc.shpump = true → acc.shroad = false → acc.ptorOn = false →
            acc.park = false →
            (s.fc.critical = none → ∃ c, t.fc.critical = some c ∧ c.cause = .parkReleased ∧ c.res = none)
            ∧ (s.fc.critical.isSome = true → t.fc.lockdown = true ∧ t.mc.mode = .lockdown))))
  ∧ (∀ (l : Inputs) (s : State), s.mc.sampleTimer.isSome = true → s.mc.inited = false → s.rm.pathBoth = false →
    let both : Prop := l.shpump = true ∧ l.shroad = false ∧ l.ptorOn = true
    ∃ t, exec (.inputSample l) s = .next t
      ∧ (t.rm.pathBoth = true ↔ both)
      ∧ (both → s.fc.lockdown = false →
        (s.fc.critical = none → ∃ c, t.fc.critical = some c ∧ c.cause = .pathBoth ∧ c.res = none)
        ∧ (s.fc.critical.isSome = true → t.fc.lockdown = true ∧ t.mc.mode = .lockdown))
      ∧ (¬both → s.mc.derived = false → s.cp.resync = false → t.fc = s.fc))
  ∧ (∀ s : State, s.pcu.windowTimer.isSome = true → s.mc.derived = true → s.mc.sp = true → s.mc.accepted.park = true →
    s.mc.splitPos = .engaged → s.rm.split.conf = .engaged → s.rm.shift = none → s.rm.queue = [] → s.cp.resync = false →
    s.fc.lockdown = false →
    let sum := ((s.pcu.road.window :: s.pcu.road.ring).take 8).sum
    ∃ t, exec .speedWindow s = .next t
      ∧ (sum ≤ s.par.motionTolerance → t.mc.motionEp = false ∧ t.fc = s.fc)
      ∧ (s.par.motionTolerance < sum → s.mc.motionEp = true → t.mc.motionEp = true ∧ t.fc = s.fc)
      ∧ (s.par.motionTolerance < sum → s.mc.motionEp = false →
        (s.fc.critical = none → t.mc.motionEp = true
          ∧ ∃ c, t.fc.critical = some c ∧ c.cause = .wheelMotion ∧ c.res = none)
        ∧ (s.fc.critical.isSome = true → t.fc.lockdown = true ∧ t.mc.mode = .lockdown)))

/-- R62, R165: the split position watch's expiry with the critical slot empty sets the reported flag and is the critical fault
SPLIT_LOST: the slot holds it with resource SPLIT and the mode of that moment, the governor is OFF with duty 0, every
non-FORFEIT pump record is HELD with CRITICAL, and CRITICAL is set. The queue and the outputs stand. -/
def Obligations.SplitLostIsTheCriticalResponse : Prop :=
  ∀ s : State, AtRest s → s.mc.splitTimer.isSome = true → s.fc.critical = none → s.fc.lockdown = false →
    s.splitCondition = true → s.mc.derived = true →
    ∃ t, exec .splitWatchExpiry s = .next t
      ∧ t.mc = { s.mc with splitTimer := none, splitReported := true }
      ∧ (∃ c, t.fc = { s.fc with critical := some c } ∧ c.cause = .splitLost ∧ c.res = some .split ∧ c.mode = s.mc.mode
          ∧ c.desc = s.pg.governing ∧ c.engine = s.pcu.eng.published ∧ c.road = s.pcu.road.published)
      ∧ t.pg.state = .off ∧ (s.pg.state ≠ .off → t.pg.thrDuty = 0 ∧ t.pg.thrMode = .off ∧ t.pg.demand = s.par.idle)
      ∧ t.cp.flags.critical = true ∧ t.rm = s.rm ∧ t.tk = s.tk ∧ t.pe = s.pe
      ∧ (∀ i r, (t.dt.slot i).record = some r → r.demand.kind = .pumpStat ∨ r.demand.kind = .pumpRoll →
          r.isForfeit = false → r.reasons.critical = true ∧ r.state = .held)

/-- R166, R167, R25, R54, R68, R69, R157: a critical fault of any cause that finds the critical slot filled is lockdown; one that
comes in lockdown changes nothing. The flag is set and the lockdown capture holds the cause and the resource, and the two slots
are kept; the governor is OFF with duty 0; an apply is abandoned with LOCKDOWN; every record is FORFEIT with LOCKDOWN, the
governing list empty, the draws 0; the queue is empty and no shift is in flight; SHIFT keeps its command, PTOR is released, PTOA
and PTOB follow their lockdown behaviour; TANKVLV, FOAM1 and FOAM2 are off; the mode is LOCKDOWN with PARKHOLD on and RANGE
NEUTRAL_ONLY; LOCKDOWN is set and ATTN asserted. The split position watch's expiry is one command that brings it so (R62); the
other causes' commands are in the statements of their rules. -/
def Obligations.SecondCriticalFaultIsLockdown : Prop :=
  let locked : State → State → Prop := fun s t =>
    t.fc.lockdown = true ∧ t.fc.critical = s.fc.critical ∧ t.fc.standard = s.fc.standard
      ∧ t.pg.state = .off ∧ t.pg.thrMode = .off ∧ (s.pg.state ≠ .off → t.pg.thrDuty = 0 ∧ t.pg.demand = s.par.idle)
      ∧ t.pe.apply = none
      ∧ (∀ a, s.pe.apply = some a → t.pe.result = .abandoned a.preset a.station a.count .lockdown none)
      ∧ (∀ r ∈ t.dt.records, r.state = .forfeit .lockdown ∧ r.reasons = Reasons.none) ∧ t.dt.governing = []
      ∧ t.tk.t0.draw = 0 ∧ t.tk.t1.draw = 0 ∧ t.tk.t2.draw = 0
      ∧ t.rm.queue = [] ∧ t.rm.shift = none ∧ t.rm.adoption = none ∧ (∀ r, (t.res r).orphan = false)
      ∧ t.rm.split.cmd = s.rm.split.cmd ∧ t.rm.ptor.cmd = false
      ∧ t.rm.ptoa.cmd = (s.rm.ptoa.cmd && s.par.retainA) ∧ t.rm.ptob.cmd = (s.rm.ptob.cmd && s.par.retainB)
      ∧ t.tk.tankvlv = false ∧ t.tk.foam1 = false ∧ t.tk.foam2 = false
      ∧ t.mc.mode = .lockdown ∧ t.mc.parkhold = true ∧ t.mc.range = .neutralOnly ∧ t.cp.flags.lockdown = true ∧ t.cp.attn = true
      ∧ t.sys = s.sys ∧ t.par = s.par ∧ t.pcu = s.pcu ∧ t.pi = s.pi ∧ t.ps = s.ps
  ∀ s : State,
    (∀ c r, s.fc.lockdown = true → criticalFault c r s = s)
    ∧ (∀ c r, LockoutsAgree s → LockdownHolds s → s.fc.critical.isSome = true → s.fc.lockdown = false →
        locked s (criticalFault c r s)
        ∧ (criticalFault c r s).fc.lockdownCap
            = some ⟨c, r, s.pg.governing, s.mc.mode, s.pcu.eng.published, s.pcu.road.published,
                if s.pi.pdis.state = .noData then none else s.pi.pdis.published⟩)
    ∧ (LockoutsAgree s → LockdownHolds s → s.fc.critical.isSome = true → s.fc.lockdown = false →
        s.mc.splitTimer.isSome = true → s.cp.resync = false →
        ∃ t, exec .splitWatchExpiry s = .next t ∧ locked s t
          ∧ ∃ c, t.fc.lockdownCap = some c ∧ c.cause = .splitLost ∧ c.res = some .split)

/-! ## Counting -/

/-- R94, R97, R63: a pulse adds 1 to its channel's window count unless that is 4000 already; on ENGSPD it also clears the
engine-stopped flag and restarts its timer with 1 s, on ROADSPD it ends stillness and restarts that timer with the stillness time.
The engine stop timer's expiry sets the flag. R63, R53: the stillness timer's expiry sets its flag, and every cut take-off is uncut:
SPEED_CUT leaves the non-FORFEIT AUX records. R38, R39: a shift in PREPARE is tested when stillness begins: where all that R37 asks
of its operation holds, its output is driven and it enters ACTUATE with the confirm time (or is already in SETTLE where the confirm
shows the new position), and otherwise it waits on; this is said of an event that does not end in lockdown. A stopped timer expires
in nothing. R63, R97: an expiry that a pulse has overtaken does not happen; the mark that says so is the model's (log 2), set by a
pulse that finds the timer run out and cleared by the expiry. -/
def Obligations.PulsesAndStillness : Prop :=
  ∀ s : State,
    let counted : SpeedChan → SpeedChan := fun c => ⟨if 4000 ≤ c.window then 4000 else c.window + 1, c.ring, c.published⟩
    (s.sys.resetActive = false →
      exec (.pulseArrival .eng) s = .next { s with pcu := { s.pcu with
        eng := counted s.pcu.eng, engineStopped := false, stopTimer := some 1000,
        stopOvertaken := s.pcu.stopOvertaken || s.pcu.stopTimer == some 0 } }
      ∧ exec (.pulseArrival .pump) s = .next { s with pcu := { s.pcu with pump := counted s.pcu.pump } }
      ∧ exec (.pulseArrival .road) s = .next { s with
          pcu := { s.pcu with road := counted s.pcu.road },
          mc := { s.mc with
            still := false, stillTimer := some s.par.stillnessTime,
            stillOvertaken := s.mc.stillOvertaken || s.mc.stillTimer == some 0 } })
    ∧ (s.pcu.stopOvertaken = true →
        exec .engineStopExpiry s = .next { s with pcu := { s.pcu with stopOvertaken := false } })
    ∧ (s.pcu.stopOvertaken = false → s.pcu.stopTimer.isSome = true →
        exec .engineStopExpiry s = .next { s with pcu := { s.pcu with engineStopped := true, stopTimer := none } })
    ∧ (s.pcu.stopOvertaken = false → s.pcu.stopTimer = none → exec .engineStopExpiry s = .next s)
    ∧ (s.mc.stillOvertaken = true →
        exec .stillnessExpiry s = .next { s with mc := { s.mc with stillOvertaken := false } })
    ∧ (s.mc.stillOvertaken = false → s.mc.stillTimer = none → exec .stillnessExpiry s = .next s)
    ∧ (s.mc.stillOvertaken = false → s.mc.stillTimer.isSome = true → s.mc.still = true →
        exec .stillnessExpiry s = .next { s with mc := { s.mc with stillTimer := none } })
    ∧ (s.mc.stillOvertaken = false → s.mc.stillTimer.isSome = true → s.mc.still = false →
      ∃ t, exec .stillnessExpiry s = .next t
        ∧ t.mc.still = true ∧ t.mc.stillTimer = none ∧ t.rm.ptoa.cut = false ∧ t.rm.ptob.cut = false
        ∧ (s.rm.ptoa.cut = true → ∀ i r, (t.dt.slot i).record = some r → r.demand = .aux .a → r.isForfeit = false →
            r.reasons.speedCut = false)
        ∧ (s.rm.ptob.cut = true → ∀ i r, (t.dt.slot i).record = some r → r.demand = .aux .b → r.isForfeit = false →
            r.reasons.speedCut = false)
        ∧ (∀ sh, s.rm.shift = some sh → sh.stage = .prepare → s.cp.resync = false → t.fc.lockdown = false →
          let slow : Prop := s.pcu.eng.published ≤ s.par.engageLimit
          let parked : Prop := s.mc.accepted.neutral = true ∧ s.mc.accepted.park = true
          let holds : Prop := match sh.res, sh.op with
            | .split, .engage => slow ∧ parked ∧ s.rm.ptor.conf = .disengaged ∧ s.rm.ptor.cmd = false
            | .ptor, .engage => slow ∧ parked ∧ s.rm.split.conf = .disengaged ∧ s.rm.split.cmd = false
            | .ptor, .disengage => True
            | .ptoa, .disengage => True
            | .ptob, .disengage => True
            | _, _ => slow ∧ s.mc.accepted.neutral = true
          let new : Pos := if sh.op = .engage then .engaged else .disengaged
          (¬holds → t.rm.shift = some sh ∧ (t.res sh.res).cmd = (s.res sh.res).cmd)
          ∧ (holds → (t.res sh.res).cmd = (sh.op == .engage)
            ∧ (s.input sh.res ≠ new → t.rm.shift = some { sh with stage := .actuate, timer := s.par.confirmTime })
            ∧ (s.input sh.res = new → t.rm.shift = some { sh with stage := .settle, timer := s.par.settleTime }))))

/-- R95, R96, R97, R98: at a window expiry each window count enters its ring as the newest entry (4, 4 and 8 entries at most) and
starts again at 0, and the speeds are published from the ring sums with their clamps, the engine's 0 while it is stopped and the
road's 0 while the vehicle is still; the timer starts again. R84: the road speed becomes the overspeed watch's last one; that it
does so in LOCKDOWN too, where R68 says that the watch does not run, is the model's reading (log 42). The pressure channels and the
store stand. R52, R23: a speed above the cut-out speed cuts PTOA and PTOB where the profile does not mark them road-permitted: the
cut flag is set, an orphan flag cleared, and every non-FORFEIT AUX record naming the take-off is HELD with SPEED_CUT. R44: the cut
of a take-off with holders whose ENGAGE waits in PREPARE cancels that shift: the output was never moved and the confirmed position
takes the input's value. R37, R38, R39: every shift in PREPARE (a SPLIT ENGAGE or DISENGAGE, an ENGAGE of PTOR, PTOA or PTOB) is
tested at the publication of the engine speed: where that is at or below the engage limit, NEUTRAL is set and the vehicle is still,
and for SPLIT's and PTOR's ENGAGE PARK is set too and the other one is confirmed and commanded at its disengaged position, the
output is driven and the shift is in ACTUATE with the confirm time (or in SETTLE where the confirm shows the new position); where
not, it waits on, unless the same publication cuts its take-off. This is said of an event that does not end in lockdown. A stopped
timer expires in nothing. -/
def Obligations.SpeedWindowPublishes : Prop :=
  ∀ s : State,
    (s.pcu.windowTimer = none → exec .speedWindow s = .next s)
    ∧ (s.pcu.windowTimer.isSome = true →
      let e := (s.pcu.eng.window :: s.pcu.eng.ring).take 4
      let p := (s.pcu.pump.window :: s.pcu.pump.ring).take 4
      let d := (s.pcu.road.window :: s.pcu.road.ring).take 8
      let v := if s.mc.still then 0 else min 1500 (d.sum * 45000 / s.par.roadPulses)
      ∃ t, exec .speedWindow s = .next t
        ∧ t.pcu = { s.pcu with
            eng := ⟨0, e, if s.pcu.engineStopped then 0 else min 6000 (e.sum * 150 / s.par.enginePulses)⟩
            pump := ⟨0, p, min 6000 (p.sum * 150 / s.par.pumpPulses)⟩
            road := ⟨0, d, v⟩
            windowTimer := some 100 }
        ∧ t.mc.overSpeed = v ∧ t.pi = s.pi ∧ t.ps = s.ps ∧ t.par = s.par ∧ t.sys = s.sys
        ∧ (∀ sh, s.rm.shift = some sh → sh.stage = .prepare → s.cp.resync = false → t.fc.lockdown = false →
          let slow : Prop := t.pcu.eng.published ≤ s.par.engageLimit ∧ s.mc.accepted.neutral = true ∧ s.mc.still = true
          let holds : Prop := match sh.res, sh.op with
            | .split, .engage => slow ∧ s.mc.accepted.park = true ∧ s.rm.ptor.conf = .disengaged ∧ s.rm.ptor.cmd = false
            | .split, .disengage => slow
            | .ptor, .engage => slow ∧ s.mc.accepted.park = true ∧ s.rm.split.conf = .disengaged ∧ s.rm.split.cmd = false
            | .ptoa, .engage => slow
            | .ptob, .engage => slow
            | _, .disengage => True
          let new : Pos := if sh.op = .engage then .engaged else .disengaged
          (¬holds → (t.res sh.res).cut = (s.res sh.res).cut →
            t.rm.shift = some sh ∧ (t.res sh.res).cmd = (s.res sh.res).cmd)
          ∧ (holds → (t.res sh.res).cmd = (sh.op == .engage)
            ∧ (s.input sh.res ≠ new → t.rm.shift = some { sh with stage := .actuate, timer := s.par.confirmTime })
            ∧ (s.input sh.res = new → t.rm.shift = some { sh with stage := .settle, timer := s.par.settleTime })))
        ∧ ∀ p ∈ [(Res.ptoa, s.par.roadPermittedA, Target.a), (Res.ptob, s.par.roadPermittedB, Target.b)],
            (p.2.1 = false → (s.res p.1).cut = false → s.par.cutoutSpeed < v →
              (t.res p.1).cut = true ∧ (t.res p.1).orphan = false
              ∧ ∀ i r, (t.dt.slot i).record = some r → r.demand = .aux p.2.2 → r.isForfeit = false →
                  r.reasons.speedCut = true ∧ r.state = .held)
            ∧ (∀ n, p.2.1 = false → (s.res p.1).cut = false → s.par.cutoutSpeed < v →
              s.rm.shift = some ⟨p.1, .engage, .prepare, n⟩ → s.rm.entry p.1 = none → 0 < (s.res p.1).holders →
              (s.res p.1).orphan = false → (s.res p.1).cmd = false → s.fc.lockdown = false →
              t.rm.shiftOf p.1 = false ∧ (t.res p.1).cmd = false ∧ (t.res p.1).conf = s.input p.1)
            ∧ (p.2.1 = true ∨ v ≤ s.par.cutoutSpeed → (t.res p.1).cut = (s.res p.1).cut))

/-- R84: at a publication with no episode open, a road speed above the roll limit starts a stopped grace timer with the overspeed
grace while roll pumping holds (R77), and a running one runs on; a speed at or below the limit, or no roll pumping, stops it. R85,
R121, R123: the grace timer's expiry opens the episode: every non-FORFEIT PUMP_ROLL record is HELD with OVERSPEED, the governor's
C_roll, ceiling and demand are the idle speed with duty 0, and ROLL_OVERSPEED with resource PTOR is captured in an empty standard
slot; a stopped timer expires in nothing. R86: an open episode ends at the first publication that is below the limit by the band:
OVERSPEED leaves the records and C_roll is the pump maximum; above that it stays open. That this goes on in LOCKDOWN is the model's
(log 42). -/
def Obligations.RollOverspeedWatch : Prop :=
  (∀ s : State,
    (s.mc.graceTimer = none → exec .graceExpiry s = .next s)
    ∧ (s.mc.graceTimer.isSome = true → s.cp.resync = false → ∃ t, exec .graceExpiry s = .next t
      ∧ t.mc.overEp = true ∧ t.mc.graceTimer = none
      ∧ (∀ i r, (t.dt.slot i).record = some r → r.demand.kind = .pumpRoll → r.isForfeit = false →
          r.reasons.overspeed = true ∧ r.state = .held)
      ∧ t.pg.cRoll = s.par.idle ∧ t.pg.ceiling = s.par.idle ∧ t.pg.demand = s.par.idle ∧ t.pg.thrDuty = 0
      ∧ (s.fc.standard = none → ∃ c, t.fc.standard = some c ∧ c.cause = .rollOverspeed ∧ c.res = some .ptor)))
  ∧ (∀ s : State, s.pcu.windowTimer.isSome = true →
    let v := if s.mc.still then 0
      else min 1500 (((s.pcu.road.window :: s.pcu.road.ring).take 8).sum * 45000 / s.par.roadPulses)
    ∃ t, exec .speedWindow s = .next t
      ∧ (s.mc.overEp = true → v + s.par.overspeedBand ≤ s.par.rollLimit →
          t.mc.overEp = false ∧ t.pg.cRoll = s.par.pumpMax
          ∧ ∀ i r, (t.dt.slot i).record = some r → r.demand.kind = .pumpRoll → r.isForfeit = false →
              r.reasons.overspeed = false)
      ∧ (s.mc.overEp = true → s.par.rollLimit < v + s.par.overspeedBand →
          t.mc.overEp = true ∧ t.pg.cRoll = s.pg.cRoll)
      ∧ (s.mc.overEp = false → v ≤ s.par.rollLimit → t.mc.overEp = false ∧ t.mc.graceTimer = none)
      ∧ (s.mc.overEp = false → s.par.rollLimit < v → s.mc.derived = true →
          let rolls : Prop := t.mc.mode = .roll ∨ (t.mc.mode = .shifting ∧ t.rm.ptor.conf = .engaged
            ∧ t.rm.split.conf = .disengaged ∧ t.rm.shiftOf .split = false)
          t.mc.overEp = false
          ∧ (rolls → t.mc.graceTimer = some (s.mc.graceTimer.getD s.par.overspeedGrace))
          ∧ (¬rolls → t.mc.graceTimer = none)))

/-- R102: the X mode chooses which legal edges a configured channel counts; a counted edge moves the count by 1 (R103: held
between 0 and 65535) and sets the direction, an edge not counted changes neither; the direction is R101's. R103, R104: a count
that ends at a limit and an illegal transition put the channel into FAULT, the latter with count and direction as they were;
an episode that begins is reported as LEVEL_SENSOR, or kept pending while VMAIN is off, as it is in a warm reset (R108). A
channel that is not configured only takes the levels. -/
def Obligations.LevelSampleCounts : Prop :=
  ∀ (i : TankId) (a b z m : Bool) (old : Phase) (s : State),
    (s.sys.resetActive = true → s.sys.vmain = false ∧ s.cp.resetKind ≠ .cold) →
    (s.pcu.level i).phase = some old → (z = true → old.z = true) →
    let c := s.pcu.level i
    let up : Bool := if a ≠ old.a then a != b else a == b
    let legal : Bool := (a != old.a) != (b != old.b)
    let counted : Bool := match c.xmode with
      | .x1 => a && !old.a
      | .x2 => a != old.a
      | .x4 => true
    let n := if up then min 65535 (c.count + 1) else c.count - 1
    let c' : LevelChan := { c with phase := some ⟨a, b, z⟩ }
    let begins : Bool := c.state != .fault && s.sys.vmain
    let fresh : Bool := begins && s.fc.standard.isNone
    let pending : Bool := if c.state = .fault ∨ s.sys.vmain = true then c.faultPending else true
    (c.configured = false ∨ (a = old.a ∧ b = old.b) ∨ (legal = true ∧ counted = false) →
      exec (.levelSample i a b z m) s = .next (s.setPcu (s.pcu.setLevel i c')))
    ∧ (c.configured = true → legal = true → counted = true → n ≠ 0 → n ≠ 65535 →
      exec (.levelSample i a b z m) s = .next (s.setPcu (s.pcu.setLevel i
        { c' with count := n, dir := if up then .up else .down })))
    ∧ (c.configured = true → legal = true → counted = true → n = 0 ∨ n = 65535 →
      ∃ t, exec (.levelSample i a b z m) s = .next t
        ∧ t.pcu.level i = { c' with count := n, dir := if up then .up else .down, state := .fault, faultPending := pending }
        ∧ (fresh = true → ∃ k, t.fc.standard = some k ∧ k.cause = .levelSensor) ∧ (begins = false → t.fc = s.fc))
    ∧ (c.configured = true → a ≠ old.a → b ≠ old.b →
      ∃ t, exec (.levelSample i a b z m) s = .next t
        ∧ t.pcu.level i = { c' with state := .fault, faultPending := pending }
        ∧ (fresh = true → ∃ k, t.fc.standard = some k ∧ k.cause = .levelSensor) ∧ (begins = false → t.fc = s.fc)
        ∧ (c.state = .fault → t = s.setPcu (s.pcu.setLevel i c')))

/-- R105, R106, R107, R103, R104: a reference mark on a configured channel moves the captures, sets the count to the reference count,
makes the channel REFERENCED, out of FAULT too, and sets re-reference pending, whatever the count and the reference count. Found
together with a counted edge, the edge taken first is captured and then lost to the reference count, the mark taken first captures
the count before it and the edge then moves the count. An edge that brings the count to 0 or 65535, and an illegal transition, put
the channel into FAULT: taken first, it begins a fault episode in a channel not in FAULT, and the mark ends it without a drift check;
taken after the mark's drift check, it begins one and the channel is left in FAULT (for the edge that is log 43's choice). A drift
beyond the limit of a REFERENCED channel is reported as LEVEL_DRIFT, or flagged while VMAIN is off, as it is in a warm reset; the
episode is reported as LEVEL_SENSOR, or kept pending then (R108). -/
def Obligations.ReferenceMarkSetsTheCount : Prop :=
  ∀ (i : TankId) (a b m : Bool) (old : Phase) (s : State),
    (s.sys.resetActive = true → s.sys.vmain = false ∧ s.cp.resetKind ≠ .cold) →
    (s.pcu.level i).phase = some old → old.z = false → (s.pcu.level i).configured = true →
    let c := s.pcu.level i
    let up : Bool := if a ≠ old.a then a != b else a == b
    let illegal : Bool := a != old.a && b != old.b
    let edge : Bool := (a != old.a) != (b != old.b) && (match c.xmode with
      | .x1 => a && !old.a
      | .x2 => a != old.a
      | .x4 => true)
    let move : Nat → Nat := fun k => if edge then (if up then min 65535 (k + 1) else k - 1) else k
    let stops : Nat → Bool := fun k => illegal || (edge && (move k == 0 || move k == 65535))
    let captured := if m then c.count else move c.count
    let drift : Bool := c.state == .referenced && (m || !stops c.count)
      && decide (c.driftLimit < max (captured - c.refCount) (c.refCount - captured))
    let episode : Bool := if m then stops c.refCount else stops c.count && c.state != .fault
    let reports : List Cause := (if drift then [.levelDrift] else []) ++ (if episode then [.levelSensor] else [])
    ∃ t, exec (.levelSample i a b true m) s = .next t
      ∧ t.pcu.level i = { c with
          phase := some ⟨a, b, true⟩, priorCap := c.indexCap, indexCap := captured
          count := if m then move c.refCount else c.refCount
          dir := if edge then (if up then .up else .down) else c.dir
          state := if m && stops c.refCount then .fault else .referenced
          rerefPending := true
          driftFlag := if drift then !s.sys.vmain else c.driftFlag
          faultPending := if episode && !s.sys.vmain then true else c.faultPending }
      ∧ (s.sys.vmain = false ∨ reports = [] → t.fc = s.fc)
      ∧ (s.sys.vmain = true → s.fc.standard = none → t.fc.standard.map Capture.cause = reports.head?)
      ∧ (s.sys.vmain = true → s.fc.standard.isSome = true → t.fc.standard = s.fc.standard ∧ ∀ k ∈ reports, k ∈ t.fc.also)
      ∧ (s.sys.vmain = true → ∀ k ∈ reports.tail, k ∈ t.fc.also)

/-! ## Pressure and governor -/

/-! ## Pressure and governor -/

/-! ## Pressure and governor -/

/-- R113, R114, R115: one expiry converts both channels. In band the raw value enters the ring, at most four entries, newest
first; NO_DATA and VALID publish offset + floor(mean × span ÷ 4096), FAULT does at the third in-band value in a row. Out of band
nothing is entered, the third in a row is FAULT with the published value kept and the ring emptied, and PDIS_SENSOR or PINT_SENSOR
is reported once; in FAULT it empties the ring. R164: the report fills an empty standard slot and joins the also set of a filled
one. That PDIS_SENSOR fills the slot and PINT_SENSOR joins the also set where both channels enter FAULT in one expiry is the
model's choice (log 44): R113 to R115 give no order between them. -/
def Obligations.PressureConversionActsByState : Prop :=
  ∀ (x y : Nat) (s : State), s.pi.convTimer.isSome = true → x ≤ 4095 → y ≤ 4095 →
    let next : Int → Nat → Nat → Nat → Nat → PressChan → PressChan := fun offset span lo hi raw c =>
      let ring := (raw :: c.ring).take 4
      let value : Int := offset + ((ring.sum / ring.length * span / 4096 : Nat) : Int)
      match c.state, decide (lo ≤ raw ∧ raw ≤ hi) with
      | .fault, true => if c.inb < 2 then { c with ring := ring, inb := c.inb + 1 }
          else { c with state := .valid, ring := ring, inb := 0, published := some value }
      | .fault, false => { c with ring := [], inb := 0 }
      | _, true => { c with state := .valid, ring := ring, oob := 0, published := some value }
      | _, false => if c.oob < 2 then { c with oob := c.oob + 1 }
          else { c with state := .fault, ring := [], oob := 0, inb := 0 }
    let d := next s.par.pdisOffset s.par.pdisSpan s.par.pdisLo s.par.pdisHi x s.pi.pdis
    let i := next s.par.pintOffset s.par.pintSpan s.par.pintLo s.par.pintHi y s.pi.pint
    let newD := s.pi.pdis.state ≠ .fault ∧ d.state = .fault
    let newI := s.pi.pint.state ≠ .fault ∧ i.state = .fault
    ∃ t, exec (.pressureConversion x y) s = .next t
      ∧ t.pi = ⟨d, i, some 10⟩
      ∧ t.dt = s.dt ∧ t.rm = s.rm ∧ t.mc = s.mc ∧ t.pcu = s.pcu ∧ t.pg = s.pg ∧ t.tk = s.tk ∧ t.pe = s.pe ∧ t.ps = s.ps
      ∧ (¬newD → ¬newI → t.fc = s.fc ∧ t.cp = s.cp)
      ∧ (s.fc.standard = none → newD → ∃ c, t.fc.standard = some c ∧ c.cause = .pdisSensor
          ∧ c.discharge = s.pi.pdis.published)
      ∧ (s.fc.standard = none → ¬newD → newI → ∃ c, t.fc.standard = some c ∧ c.cause = .pintSensor)
      ∧ (s.fc.standard = none → newD → newI → .pintSensor ∈ t.fc.also)
      ∧ (s.fc.standard.isSome = true → t.fc.standard = s.fc.standard
          ∧ (newD → .pdisSensor ∈ t.fc.also) ∧ (newI → .pintSensor ∈ t.fc.also))

/-- R119, R120, R122, R123, R125, R127, R128, R129: an update that finds an OFF condition leaves the governor OFF with no
governing demand, the demand at idle, the relief flag clear, duty 0 and THRMODE OFF. One outside OFF with a governing demand of
gov_mode PRESSURE and PDIS VALID at or below the relief limit steps the demand by the error times the gain over 64, truncated
toward zero and clamped to max_step, and clamps it between idle and the ceiling of its four terms; C_cav follows the intake
pressure, from the intake floor up to the floor plus the band unchanged; the duty and THRMODE follow. An update that enters OFF
opens C_cav to the pump maximum, one that stays OFF leaves it. -/
def Obligations.GovernorUpdate : Prop :=
  ∀ s : State, s.pg.updateTimer.isSome = true →
    let cPath : Int := if s.mc.mode = .roll then s.par.rollFloorMax else s.par.pumpMax
    let ceilingOk : PG → Prop := fun g =>
      g.ceiling = max (s.par.idle : Int) (min (min g.cPath g.cCav) (min g.cSupply g.cRoll))
    ((s.pg.state = .off → s.pg.governing = none) →
      s.ps.validity ≠ .valid ∨ s.rm.pumpPath = false ∨ (s.mc.mode ≠ .pump ∧ s.mc.mode ≠ .roll)
        ∨ (s.mc.mode = .pump ∧ s.mc.accepted.pumprange = false) ∨ s.fc.critical.isSome = true ∨ s.fc.lockdown = true →
      ∃ g, exec .governorUpdate s = .next { s with pg := g }
        ∧ g.state = .off ∧ g.governing = none ∧ g.demand = s.par.idle ∧ g.relief = false ∧ g.thrDuty = 0 ∧ g.thrMode = .off
        ∧ g.updateTimer = some 100 ∧ g.cRoll = s.pg.cRoll ∧ g.cPath = cPath ∧ ceilingOk g
        ∧ g.cCav = (if s.pg.state = .off then s.pg.cCav else s.par.pumpMax))
    ∧ (∀ (d : Descriptor) (r : Rec) (sp : Nat) (v : Int), s.pg.state ≠ .off →
      s.ps.validity = .valid → s.rm.pumpPath = true → s.fc.critical = none → s.fc.lockdown = false →
      s.mc.mode = .roll ∨ (s.mc.mode = .pump ∧ s.mc.accepted.pumprange = true) →
      s.dt.governingDemand = some (d, r) → r.demand = .pumpStat .pressure sp ∨ r.demand = .pumpRoll .pressure sp →
      s.pi.pdis.state = .valid → s.pi.pdis.published = some v → v ≤ s.par.reliefLimit →
      let step := max (-(s.par.maxStep : Int)) (min ((((sp : Int) - v) * s.par.gain).tdiv 64) s.par.maxStep)
      ∃ g, exec .governorUpdate s = .next { s with pg := g }
        ∧ g.state = .pressure ∧ g.governing = some d ∧ g.lastStep = step ∧ g.relief = false ∧ ceilingOk g
        ∧ g.demand = max (s.par.idle : Int) (min (s.pg.demand + step) g.ceiling)
        ∧ g.thrDuty = ((g.demand - s.par.idle) * 1000).tdiv ((s.par.pumpMax : Int) - s.par.idle)
        ∧ g.thrMode = (if s.mc.mode = .pump then .full else .floor)
        ∧ g.cRoll = s.pg.cRoll ∧ g.cPath = cPath
        ∧ (s.pi.pint.state ≠ .valid → g.cCav = s.pg.cCav)
        ∧ (∀ p, s.pi.pint.state = .valid → s.pi.pint.published = some p →
            (p < s.par.intakeFloor → g.cCav = max (s.par.idle : Int) (min s.pg.cCav s.pg.demand - s.par.retreat))
            ∧ (s.par.intakeFloor ≤ p → p < s.par.intakeFloor + s.par.recoveryBand → g.cCav = s.pg.cCav)
            ∧ (s.par.intakeFloor + s.par.recoveryBand ≤ p →
                g.cCav = min (s.par.pumpMax : Int) (s.pg.cCav + s.par.recovery))))

/-- R120, R122, R124 to R129: what every update does with the supply, and every update outside OFF with the governing demand.
C_supply is idle while T0 is EMPTY, a DISCHARGE record is held for it and none with source INTAKE is ACTIVE; else the reserve
ceiling while one with source TANK is ACTIVE, none with source INTAKE is, and T0 is RESERVE or without a reading; else the no-flow
ceiling while no DISCHARGE record is ACTIVE; else the pump maximum. The state is IDLE_HOLD with no governing demand, SPEED or
PRESSURE by its gov_mode, and FROZEN for PRESSURE without a VALID PDIS. The step of SPEED and of IDLE_HOLD goes toward the
setpoint or idle, at most max_step; that of PRESSURE, at the update that leaves OFF too, is the error times the gain over 64,
truncated toward zero, at most max_step; FROZEN steps by 0. PDIS above the relief limit steps by twice max_step downward in every state
and reports OVERPRESSURE when it begins. An update that leaves OFF starts from the published engine speed, held between idle and
the ceiling of the terms before C_cav is revised. In every state C_cav is revised from a VALID PINT: below the intake floor by the
retreat from the lesser of itself and the demand the update starts from, not under idle; from the floor plus the band on by the
recovery, not over the pump maximum; unchanged between them and without a VALID PINT. The demand is held between idle and the
ceiling, the duty follows it, and THRMODE follows state and mode. Nothing else changes. -/
def Obligations.GovernorStates : Prop :=
  ∀ s : State, s.pg.updateTimer.isSome = true →
    let p := s.par
    let water := s.tk.t0.state
    let draws : (Rec → Bool) → Prop := fun x => ∃ r ∈ s.dt.records, r.state = .active ∧ x r = true
    let dry : Prop := water = .vol .empty ∧ (∃ r ∈ s.dt.records, r.isDischarge = true ∧ r.reasons.tankEmpty = true)
      ∧ ¬draws Rec.fromIntake
    let low : Prop := draws Rec.fromTank ∧ ¬draws Rec.fromIntake
      ∧ (water = .vol .reserve ∨ water = .unreferenced ∨ water = .sensorFault)
    let high : Prop := s.pi.pdis.state = .valid ∧ ∃ v, s.pi.pdis.published = some v ∧ (p.reliefLimit : Int) < v
    let bounded : Int → Int := fun x => max (-(p.maxStep : Int)) (min x p.maxStep)
    ∃ t, exec .governorUpdate s = .next t ∧ t = { s with pg := t.pg, fc := t.fc, cp := t.cp }
      ∧ (dry → t.pg.supplyCase = 1 ∧ t.pg.cSupply = p.idle)
      ∧ (¬dry → low → t.pg.supplyCase = 2 ∧ t.pg.cSupply = p.reserveCeiling)
      ∧ (¬dry → ¬low → ¬draws Rec.isDischarge → t.pg.supplyCase = 3 ∧ t.pg.cSupply = p.noFlowCeiling)
      ∧ (¬dry → ¬low → draws Rec.isDischarge → t.pg.supplyCase = 4 ∧ t.pg.cSupply = p.pumpMax)
      ∧ (s.ps.validity = .valid → s.rm.pumpPath = true → s.fc.critical = none → s.fc.lockdown = false →
        s.mc.mode = .roll ∨ (s.mc.mode = .pump ∧ s.mc.accepted.pumprange = true) →
        let first := if s.pg.state = .off
          then max (p.idle : Int) (min (s.pcu.eng.published : Int)
            (max (p.idle : Int) (min (min t.pg.cPath s.pg.cCav) (min t.pg.cSupply s.pg.cRoll))))
          else s.pg.demand
        (s.pi.pint.state ≠ .valid → t.pg.cCav = s.pg.cCav)
        ∧ (∀ v : Int, s.pi.pint.state = .valid → s.pi.pint.published = some v →
          (v < p.intakeFloor → t.pg.cCav = max (p.idle : Int) (min s.pg.cCav first - p.retreat))
          ∧ (p.intakeFloor ≤ v → v < p.intakeFloor + p.recoveryBand → t.pg.cCav = s.pg.cCav)
          ∧ (p.intakeFloor + p.recoveryBand ≤ v → t.pg.cCav = min (p.pumpMax : Int) (s.pg.cCav + p.recovery)))
        ∧ (s.dt.governingDemand = none → t.pg.state = .idleHold ∧ t.pg.governing = none
          ∧ (¬high → t.pg.lastStep = bounded (p.idle - first)))
        ∧ (∀ d r sp, s.dt.governingDemand = some (d, r) →
          (r.demand = .pumpStat .speed sp ∨ r.demand = .pumpRoll .speed sp →
            t.pg.state = .speed ∧ t.pg.governing = some d ∧ (¬high → t.pg.lastStep = bounded (sp - first)))
          ∧ (r.demand = .pumpStat .pressure sp ∨ r.demand = .pumpRoll .pressure sp →
            t.pg.governing = some d
            ∧ (s.pi.pdis.state = .valid → t.pg.state = .pressure ∧ ∀ v, s.pi.pdis.published = some v → ¬high →
                t.pg.lastStep = bounded ((((sp : Int) - v) * p.gain).tdiv 64))
            ∧ (s.pi.pdis.state ≠ .valid → t.pg.state = .frozen ∧ t.pg.lastStep = 0)))
        ∧ (high → t.pg.relief = true ∧ t.pg.lastStep = -2 * (p.maxStep : Int)
          ∧ (s.pg.relief = true → t.fc = s.fc)
          ∧ (s.pg.relief = false → s.fc.standard = none →
              ∃ c, t.fc.standard = some c ∧ c.cause = .overpressure ∧ c.res = none)
          ∧ (s.pg.relief = false → s.fc.standard.isSome = true →
              t.fc.standard = s.fc.standard ∧ .overpressure ∈ t.fc.also))
        ∧ (¬high → t.pg.relief = false ∧ t.fc = s.fc ∧ t.cp = s.cp)
        ∧ t.pg.demand = max (p.idle : Int) (min (first + t.pg.lastStep) t.pg.ceiling)
        ∧ t.pg.ceiling = max (p.idle : Int) (min (min t.pg.cPath t.pg.cCav) (min t.pg.cSupply t.pg.cRoll))
        ∧ t.pg.thrDuty = ((t.pg.demand - p.idle) * 1000).tdiv ((p.pumpMax : Int) - p.idle)
        ∧ t.pg.thrMode = (if s.mc.mode = .pump then .full else if s.dt.governingDemand.isSome then .floor else .off))

/-! ## Tanks -/

/-- R137: the raw volume of a level. At or above the last point's level it is the last point's volume. Otherwise, in the
segment from (Li, Vi) to (Li+1, Vi+1) whose first level is at or below the level and whose next level is above it, it is
Vi + floor((level - Li) × (Vi+1 - Vi) ÷ (Li+1 - Li)). -/
def Obligations.StrappingTableFollowsR137 : Prop :=
  ∀ (level : Nat) (points : List (Nat × Nat)), points.Pairwise (fun p q => p.1 < q.1 ∧ p.2 ≤ q.2) →
    (∀ p, points.getLast? = some p → p.1 ≤ level → volumeOf level points = p.2)
    ∧ (∀ i p q, points[i]? = some p → points[i + 1]? = some q → p.1 ≤ level → level < q.1 →
        volumeOf level points = p.2 + (level - p.1) * (q.2 - p.2) / (q.1 - p.1))

/-- R135 to R142, R144: at an update every present tank is read from its level channel as it stands: the level, the raw volume,
the filtered volume (seeded, or moved by one step toward the raw volume), the state by the channel and by the thresholds with
their hysteresis, and the time to empty at the draw total. The channel's re-reference flag is taken. A T0 that becomes EMPTY holds
every non-FORFEIT TANK-sourced record with TANK_EMPTY; one that leaves EMPTY takes the reason off them, and the service rule makes
each ACTIVE or leaves it HELD with what it still holds. A foam tank that becomes EMPTY or leaves EMPTY has the suspension of every
foam part evaluated (R145), a changed state raises TANK_CHANGED, and the draw totals and valves follow (R143, R146, R147). A
stopped timer expires in nothing. -/
def Obligations.TankUpdateReadsTheChannel : Prop :=
  (∀ s : State, s.tk.updateTimer = none → exec .tankUpdate s = .next s)
  ∧ (∀ (i : TankId) (cfg : TankCfg) (s : State), s.tk.updateTimer.isSome = true → s.cp.resync = false →
      (s.tk.get i).present = true → (s.tk.get i).cfg = some cfg →
      let c := s.pcu.level i
      let old := s.tk.get i
      let w : Nat := if s.mc.still then s.par.stillWeight else s.par.movingWeight
      let level : Nat := if c.count < cfg.zeroCount then 0 else min cfg.height ((c.count - cfg.zeroCount) * cfg.res / 100)
      let raw := volumeOf level cfg.points
      let step : Nat → Int := fun f =>
        let delta : Int := (raw : Int) - f
        let q := (delta * w).tdiv 16
        if q ≠ 0 then q else if 0 < delta then 1 else if delta < 0 then -1 else 0
      let seeds : Bool := old.seed || c.rerefPending
      let down : Nat → VolState := fun v =>
        if v ≤ cfg.empty then .empty else if v ≤ cfg.reserve then .reserve else if v ≤ cfg.low then .low else .normal
      let rank : VolState → Nat := fun x => match x with
        | .normal => 0
        | .low => 1
        | .reserve => 2
        | .empty => 3
      let state : Nat → VolState := fun v => match old.lastVol with
        | none => down v
        | some x => if rank x < rank (down v) then down v
            else if rank (down (v - cfg.hyst)) < rank x then down (v - cfg.hyst) else x
      ∃ t, exec .tankUpdate s = .next t
        ∧ t.tk.updateTimer = some 200 ∧ t.tk.weight = w ∧ t.pcu.level i = { c with rerefPending := false }
        ∧ t.par = s.par ∧ t.ps = s.ps ∧ t.pi = s.pi ∧ t.sys = s.sys ∧ t.fc.standard = s.fc.standard
        ∧ (let k := t.tk.get i
          k.cfg = some cfg ∧ k.present = true
          ∧ k.tte = k.filtered.map (fun v => if k.draw = 0 then 65535 else min 65535 (v * 60 / k.draw))
          ∧ (c.configured = false ∨ c.state = .unreferenced →
              k.state = .unreferenced ∧ k.level = none ∧ k.raw = none ∧ k.filtered = none ∧ k.lastVol = none ∧ k.seed = old.seed)
          ∧ (c.configured = true → c.state = .fault →
              k.state = .sensorFault ∧ k.level = some level ∧ k.raw = some raw ∧ k.filtered = some (old.filtered.getD 0)
                ∧ k.lastVol = none ∧ k.seed = old.seed)
          ∧ (c.configured = true → c.state = .referenced → seeds = true →
              k.state = .vol (state raw) ∧ k.level = some level ∧ k.raw = some raw ∧ k.filtered = some raw
                ∧ k.lastVol = some (state raw) ∧ k.seed = false)
          ∧ (∀ f, c.configured = true → c.state = .referenced → seeds = false → old.filtered = some f →
              let v := ((f : Int) + step f).toNat
              k.state = .vol (state v) ∧ k.level = some level ∧ k.raw = some raw ∧ k.filtered = some v
                ∧ k.lastVol = some (state v))
          ∧ (k.state ≠ old.state → t.cp.flags.tankChanged = true)
          ∧ (i = .t0 → k.state = .vol .empty → old.state ≠ .vol .empty → ∀ j r, (t.dt.slot j).record = some r →
              r.fromTank = true → r.isForfeit = false → r.reasons.tankEmpty = true ∧ r.state = .held)
          ∧ (i = .t0 → old.state = .vol .empty → k.state ≠ .vol .empty → ∀ j r, (t.dt.slot j).record = some r →
              r.fromTank = true → r.isForfeit = false → r.reasons.tankEmpty = false
                ∧ r.state = (if r.reasons.isNone then .active else .held))
          ∧ (i ≠ .t0 → (k.state = .vol .empty ↔ old.state ≠ .vol .empty) → ∀ j r f, (t.dt.slot j).record = some r →
              r.isForfeit = false → r.demand.foam = some f → f.susp = suspensionBy t f.tank)
          ∧ DrawsAgree t))

/-! ## Presets -/

/-- R153, R1: APPLY_PRESET's checks in order, a refused one changing nothing but the answer. An accepted one reserves the
lowest FREE slots with their generations unchanged, sets up the apply with 2 ms on its read timer and the result RUNNING, and
is answered ACCEPTED with the count and the slots. -/
def Obligations.ApplyPresetReservesTheLowestSlots : Prop :=
  ∀ (st : Nat) (p : Option Nat) (s : State), Serving s → s.dt.slots.length = 24 →
    let free := (List.range 24).filter (fun i => decide ((s.dt.slot i).cond = .free))
    (s.ps.op.isSome = true → exec (.applyPreset st p) s = .next (answered 0x18 .busy .empty s))
    ∧ (s.ps.op = none → p = none ∨ st = 0 ∨ 6 < st ∨ (∃ n, p = some n ∧ 7 < n) →
        exec (.applyPreset st p) s = .next (answered 0x18 .badArg .empty s))
    ∧ (∀ n, s.ps.op = none → p = some n → n ≤ 7 → 1 ≤ st → st ≤ 6 →
        (s.ps.validity ≠ .valid → exec (.applyPreset st p) s = .next (answered 0x18 .noProfile .empty s))
        ∧ (s.ps.validity = .valid →
            (s.fc.lockdown = true → exec (.applyPreset st p) s = .next (answered 0x18 .lockdown .empty s))
            ∧ (s.fc.lockdown = false →
                (s.pe.apply.isSome = true → exec (.applyPreset st p) s = .next (answered 0x18 .busy .empty s))
                ∧ (s.pe.apply = none → s.pe.counts[n]? = some (some 0) →
                    exec (.applyPreset st p) s = .next (answered 0x18 .badArg .empty s))
                ∧ (∀ k, s.pe.apply = none → s.pe.counts[n]? = some (some k) → 0 < k →
                    (free.length < k → exec (.applyPreset st p) s = .next (answered 0x18 .tableFull .empty s))
                    ∧ (k ≤ free.length → ∃ t, exec (.applyPreset st p) s = .next t
                        ∧ (∀ i, t.dt.slot i = if i ∈ free.take k then ⟨(s.dt.slot i).gen, .reserved⟩ else s.dt.slot i)
                        ∧ t.dt.governing = s.dt.governing
                        ∧ t.pe = { s.pe with
                            apply := some ⟨n, st, k, free.take k, 0, 2, []⟩, result := .running n st k (free.take k) 0 }
                        ∧ t.cp = (answered 0x18 .accepted (.applied k (free.take k)) s).cp
                        ∧ t.sys = s.sys ∧ t.par = s.par ∧ t.rm = s.rm ∧ t.mc = s.mc ∧ t.pcu = s.pcu ∧ t.pi = s.pi
                        ∧ t.pg = s.pg ∧ t.tk = s.tk ∧ t.fc = s.fc ∧ t.ps = s.ps)))))

/-- R154, R155, R156, R157: a read completion whose template's bytes do not sum to 0 abandons the apply with STORE_ERROR and the
template's index; a good one that is not the last is kept (station 0 replaced by the applying station) and starts the next read
with 2 ms. At the last one the set is checked and committed or abandoned; either way the apply is no longer in flight,
PRESET_DONE is set, with ATTN following it, and at abandonment every reserved slot is FREE with its generation advanced and
nothing else has changed.
R156, R12, R13, R11, R81, R20, R31: a commit fills each reserved slot, its generation unchanged, with its template's demand as R11
limits it and its station, a PUMP_ROLL's lease running with the lease period; every resource counts its new holders; each record
takes the reasons and the foam suspension that apply at once and its state by the service rule, as the Resource Manager has left the
resources; the pump-kind records stand first in the governing list, the last template foremost; the draws and valves follow
(R143, R146, R147); the changed flags are clear. This is said of a commit whose event captures no fault of its own (log 12).
The values a template's words hold are free (log 20): words that hold a field out of range end the apply as a bad read does,
which is the model's choice (log 20). With no apply in flight nothing happens. -/
def Obligations.TemplateReadCompletes : Prop :=
  ∀ s : State,
    (s.pe.apply = none → exec .templateReadCompletion s = .next s)
    ∧ (∀ a, s.pe.apply = some a → s.cp.resync = false → AtRest s →
      let ws := templateAt (s.ps.group (4 + a.preset)).data a.readIndex
      let abandoned : AbandonReason → Nat → Prop := fun why k => ∃ t, exec .templateReadCompletion s = .next t
        ∧ t.pe = { s.pe with apply := none, result := .abandoned a.preset a.station a.count why (some k) }
        ∧ t.cp = { s.cp with
            flags := { s.cp.flags with presetDone := true }
            attn := attnLevel { s.cp.flags with presetDone := true } s.cp.mask }
        ∧ t.sys = s.sys ∧ t.par = s.par ∧ t.pcu = s.pcu ∧ t.pi = s.pi ∧ t.pending = s.pending
        ∧ t.dt.governing = s.dt.governing
        ∧ (∀ i, t.dt.slot i = if i ∈ a.slots ∧ (s.dt.slot i).cond = .reserved
            then ⟨((s.dt.slot i).gen + 1) % 16, .free⟩ else s.dt.slot i)
        ∧ t.rm = s.rm ∧ t.mc = s.mc ∧ t.pg = s.pg ∧ t.tk = s.tk ∧ t.fc = s.fc ∧ t.ps = s.ps
      (templateGood ws = false → abandoned .storeError a.readIndex)
      ∧ (templateGood ws = true → a.readIndex + 1 < a.count →
          match templateOf a.station ws with
          | none => abandoned .storeError a.readIndex
          | some x => exec .templateReadCompletion s = .next { s with pe := { s.pe with
              apply := some { a with readIndex := a.readIndex + 1, timer := 2, templates := a.templates ++ [x] }
              result := .running a.preset a.station a.count a.slots (a.readIndex + 1) } })
      ∧ (templateGood ws = true → a.count = a.readIndex + 1 →
          match templateOf a.station ws with
          | none => abandoned .storeError a.readIndex
          | some x =>
            let l := a.templates ++ [x]
            match checkTemplates s [] 0 l with
            | some (why, k) => abandoned why k
            | none => ∃ t, exec .templateReadCompletion s = .next t
                ∧ t.pe.apply = none ∧ t.cp.flags.presetDone = true
                ∧ t.pe.result = .done a.preset a.station a.count
                    ((a.slots.zip l).map (fun p => ((⟨p.1, (s.dt.slot p.1).gen⟩ : Descriptor), p.2.spec.isClamped s.par)))
                ∧ (a.slots.Nodup → (∀ i ∈ a.slots, i < s.dt.slots.length ∧ (s.dt.slot i).cond = .reserved) →
                    (∀ p ∈ a.slots.zip l, ∃ r, t.dt.slot p.1 = ⟨(s.dt.slot p.1).gen, .occupied r⟩
                      ∧ r.station = p.2.station ∧ r.demand.kind = p.2.spec.kind)
                    ∧ (t.fc = s.fc →
                      let lim : GovMode → Nat → Nat := fun g sp => match g with
                        | .pressure => min sp s.par.maxPressure
                        | .speed => min s.par.pumpMax (max s.par.idle sp)
                      let demand : Spec → Demand := fun x => match x with
                        | .pumpStat g sp => .pumpStat g (lim g sp)
                        | .pumpRoll g sp => .pumpRoll g (lim g sp)
                        | .aux y => .aux y
                        | .discharge o src flow f =>
                          .discharge o src (min flow 10000) (f.map (fun p => ⟨p.1, p.2, suspensionBy t p.1⟩))
                      let reasons : Spec → Reasons := fun x => match x with
                        | .pumpStat _ _ => { Reasons.none with critical := s.fc.critical.isSome }
                        | .pumpRoll _ _ => { Reasons.none with critical := s.fc.critical.isSome, overspeed := s.mc.overEp }
                        | .aux .a => { Reasons.none with speedCut := s.rm.ptoa.cut }
                        | .aux .b => { Reasons.none with speedCut := s.rm.ptob.cut }
                        | .discharge _ src _ _ => { Reasons.none with
                            noPump := !(t.rm.split.conf == .engaged || t.rm.ptor.conf == .engaged)
                            tankEmpty := src == .tank && s.tk.t0.state == .vol .empty }
                      let state : Spec → RecState := fun x =>
                        if !(reasons x).isNone then .held else match (demand x).resource with
                          | none => .active
                          | some q => if t.rm.ready q then .active
                              else if t.rm.engageOf q || t.rm.returnedEngage q then .engaging else .queued
                      let lease : Spec → Lease := fun x =>
                        if x.kind = .pumpRoll then ⟨s.par.leasePeriod, true, false⟩ else ⟨0, false, false⟩
                      (∀ p ∈ a.slots.zip l, (t.dt.slot p.1).record = some
                        ⟨demand p.2.spec, p.2.station, state p.2.spec, reasons p.2.spec, lease p.2.spec, false⟩)
                      ∧ (∀ i, i ∉ a.slots → (s.dt.slot i).record = none → t.dt.slot i = s.dt.slot i)
                      ∧ t.dt.governing = (((a.slots.zip l).filter (fun p =>
                            p.2.spec.kind = .pumpStat ∨ p.2.spec.kind = .pumpRoll)).map
                          (fun p => (⟨p.1, (s.dt.slot p.1).gen⟩ : Descriptor))).reverse ++ s.dt.governing
                      ∧ (∀ q, (t.res q).holders = (s.res q).holders
                          + (a.slots.zip l).countP (fun p => decide ((demand p.2.spec).resource = some q)))
                      ∧ ((∃ p ∈ a.slots.zip l, p.2.spec.kind = .discharge) → DrawsAgree t)))))

/-- R155: the check of a set of templates takes them in order and gives the first failure with its index: per template a tank
not present (BAD_ARG), then a non-FORFEIT record or an earlier template of the other pump kind (PATH_CONFLICT), then a
non-FORFEIT DISCHARGE record or an earlier template naming the same outlet (OUTLET_BUSY). -/
def Obligations.PresetCheckTakesTheFirstFailure : Prop :=
  ∀ (s : State) (l : List Template),
    let otherKind : Kind → Kind → Prop := fun x y => (x = .pumpStat ∧ y = .pumpRoll) ∨ (x = .pumpRoll ∧ y = .pumpStat)
    let bad : Template → Prop := fun x => s.tanksPresent x.spec = false
    let conflict : List Template → Template → Prop := fun earlier x =>
      (∃ r ∈ s.dt.records, r.isForfeit = false ∧ otherKind x.spec.kind r.demand.kind)
        ∨ ∃ e ∈ earlier, otherKind x.spec.kind e.spec.kind
    let busy : List Template → Template → Prop := fun earlier x => ∃ o, x.spec.outlet = some o
      ∧ ((∃ r ∈ s.dt.records, r.isForfeit = false ∧ ∃ src f p, r.demand = .discharge o src f p)
        ∨ ∃ e ∈ earlier, e.spec.outlet = some o)
    let fails : List Template → Template → Prop := fun earlier x => bad x ∨ conflict earlier x ∨ busy earlier x
    (checkTemplates s [] 0 l = none ↔ ∀ k x, l[k]? = some x → ¬fails (l.take k) x)
    ∧ (∀ why k, checkTemplates s [] 0 l = some (why, k) ↔
        ∃ x, l[k]? = some x ∧ fails (l.take k) x ∧ (∀ j y, j < k → l[j]? = some y → ¬fails (l.take j) y)
          ∧ ((bad x ∧ why = .badArg) ∨ (¬bad x ∧ conflict (l.take k) x ∧ why = .pathConflict)
            ∨ (¬bad x ∧ ¬conflict (l.take k) x ∧ why = .outletBusy)))

/-! ## Fault Capture -/

/-- R169, R171: ACK_FAULT of the standard slot empties it with its also set and clears STANDARD; the sensor faults that still
stand come back, the first into the slot and the others into the also set; the order in which the also set then lists them is
the model's choice (R161 calls it a set, log 48). The answer carries the cause emptied and the one now
there. In lockdown it is answered LOCKDOWN, a slot that is neither BAD_ARG, an empty slot OK with nothing changed; the empty
body of that OK is the model's choice (log 35). -/
def Obligations.AckFaultStandard : Prop :=
  ∀ s : State, Serving s →
    (∀ x, s.fc.lockdown = true → exec (.ackFault x) s = .next (answered 0x23 .lockdown .empty s))
    ∧ (s.fc.lockdown = false → exec (.ackFault none) s = .next (answered 0x23 .badArg .empty s))
    ∧ (s.fc.lockdown = false → s.fc.standard = none →
        exec (.ackFault (some .standard)) s = .next (answered 0x23 .ok .empty s))
    ∧ (∀ c, s.fc.lockdown = false → s.fc.standard = some c → AtRest s →
        let faulted : TankId → Bool := fun i => (s.pcu.level i).configured && (s.pcu.level i).state == .fault
        let standing : List Cause :=
          (if s.pi.pdis.state = .fault then [.pdisSensor] else []) ++ (if s.pi.pint.state = .fault then [.pintSensor] else [])
            ++ (if faulted .t0 || faulted .t1 || faulted .t2 then [.levelSensor] else [])
        ∃ t, exec (.ackFault (some .standard)) s = .next t
          ∧ t.fc.standard.map Capture.cause = standing.head? ∧ t.fc.also = standing.tail ∧ t.fc.critical = s.fc.critical
          ∧ t.fc.lockdown = false ∧ t.cp.flags = { s.cp.flags with standard := t.fc.standard.isSome }
          ∧ t.cp.answer = ⟨0x23, .ok, .acked c.cause standing.head?⟩
          ∧ t.dt = s.dt ∧ t.rm = s.rm ∧ t.mc = s.mc ∧ t.pcu = s.pcu ∧ t.pi = s.pi ∧ t.pg = s.pg ∧ t.tk = s.tk ∧ t.pe = s.pe
          ∧ t.ps = s.ps ∧ t.par = s.par ∧ t.sys = s.sys)

/-- R170, R171: ACK_FAULT of the critical slot empties it and removes CRITICAL from the pump records; the first condition that
still stands, in the order wheel motion, park, split position, path both, stuck, split drift, fills the slot again with the
critical response. It never brings lockdown, and no changed flag is set for CRITICAL taken off and put back. R169 order 3: where the
critical slot is empty the answer is OK and nothing changes; the empty body of that OK is the model's choice (log 35). -/
def Obligations.AckFaultCritical : Prop :=
  (∀ s : State, Serving s → s.fc.lockdown = false → s.fc.critical = none →
    exec (.ackFault (some .critical)) s = .next (answered 0x23 .ok .empty s))
  ∧ ∀ (c : Capture) (s : State), Serving s → AtRest s → s.fc.lockdown = false → s.fc.critical = some c →
    let standing : List (Cause × Bool) :=
      [(.wheelMotion, s.stationary && decide (s.par.motionTolerance < s.pcu.road.ring.sum)),
        (.parkReleased, s.stationary && !s.mc.accepted.park), (.splitLost, s.splitCondition && s.mc.splitReported),
        (.pathBoth, s.mc.splitPos == .engaged && s.mc.accepted.ptorOn), (.splitStuck, s.rm.stuck),
        (.splitLost, s.driftCondition .split && !s.rm.split.driftArmed)]
    let first : Option Cause := (standing.find? (fun p => p.2)).map Prod.fst
    ∃ t, exec (.ackFault (some .critical)) s = .next t
      ∧ t.fc.critical.map Capture.cause = first ∧ t.fc.standard = s.fc.standard ∧ t.fc.also = s.fc.also
      ∧ t.fc.lockdown = false ∧ t.cp.flags.critical = first.isSome ∧ t.cp.answer = ⟨0x23, .ok, .acked c.cause first⟩
      ∧ t.rm = s.rm ∧ t.mc = s.mc ∧ t.pcu = s.pcu ∧ t.pi = s.pi ∧ t.tk = s.tk ∧ t.pe = s.pe ∧ t.ps = s.ps
      ∧ (first.isSome = true → t.pg.state = .off)
      ∧ (∀ i r, (s.dt.slot i).record = some r → ∃ r', (t.dt.slot i).record = some r' ∧ r'.demand = r.demand
          ∧ (r.isForfeit = true ∨ (r.demand.kind ≠ .pumpStat ∧ r.demand.kind ≠ .pumpRoll) → r' = r)
          ∧ (r.isForfeit = false → r.demand.kind = .pumpStat ∨ r.demand.kind = .pumpRoll →
              r'.reasons = { r.reasons with critical := first.isSome } ∧ (first.isSome = true → r'.state = .held))
          ∧ (r.state = .held → r.reasons.critical = true → first.isSome = true → r'.changed = r.changed))

/-! ## Reads -/

/-- The requests that read are answered with every field their rule names, as it stands, and change nothing but the answer: R56,
R75 and R92, R111, R131, R150, R160, R172, R187. The accepted levels of READ_MODE are absent until the first sample (R59); what
READ_RESOURCES gives as the confirm inputs before that sample is the model's choice (log 46), and so is the order of the causes of
the also set (log 48). -/
def Obligations.ReadsAnswerAndChangeNothing : Prop :=
  ∀ s : State, Serving s →
    let resource : Res → Option Bool → ResView := fun r cut =>
      ⟨(s.res r).cmd, (s.res r).conf, s.input r, (s.res r).holders, (s.res r).orphan, cut, s.rm.ready r,
        s.rm.queue.find? (fun e => e.res == r)⟩
    let speed : SpeedChan → SpeedView := fun c => ⟨c.published, c.window, c.ring.length, c.ring.sum, c.ring⟩
    let level : LevelChan → LevelView := fun c => ⟨c.configured, c.xmode, c.refCount, c.driftLimit, c.count, c.dir, c.state,
      c.indexCap, c.priorCap, c.driftFlag, c.faultPending, c.rerefPending⟩
    let pressure : PressChan → PressView := fun c => ⟨c.state, c.published, c.ring.length, c.ring, c.oob, c.inb⟩
    let tank : Role → Tank → TankView := fun role k =>
      { role := role, present := k.present, state := k.state, level := k.level, raw := k.raw, filtered := k.filtered
        tte := k.tte, draw := k.draw, lastVol := k.lastVol, seed := k.seed, chan := k.chan
        cfg := k.cfg.map (fun c => ⟨(c.points.getLast?.map Prod.snd).getD 0, c.empty, c.reserve, c.low, c.hyst⟩)
        weight := s.tk.weight, nextUpdate := s.tk.updateTimer
        tankvlv := s.tk.tankvlv, foam1 := s.tk.foam1, foam2 := s.tk.foam2 }
    exec .readResources s = .next (answered 0x10 .ok (.resources
        ⟨resource .split none, resource .ptor none, resource .ptoa (some s.rm.ptoa.cut), resource .ptob (some s.rm.ptob.cut),
          s.rm.queue, s.rm.shift, s.rm.adoption, s.rm.pumpPath⟩) s)
    ∧ exec .readMode s = .next (answered 0x11 .ok (.mode
        { mode := s.mc.mode, derived := s.mc.derived
          levels := if s.mc.inited then some s.mc.accepted else none
          runs := ⟨s.mc.deb.park.run, s.mc.deb.neutral.run, s.mc.deb.pumprange.run, s.mc.deb.shroad.run, s.mc.deb.shpump.run,
            s.mc.deb.ptorOn.run, s.mc.deb.ptoaOn.run, s.mc.deb.ptobOn.run⟩
          split := s.mc.splitPos, splitTimer := s.mc.splitTimer, splitReported := s.mc.splitReported
          still := s.mc.still, stillTimer := s.mc.stillTimer, stationary := s.mc.sp
          motionEp := s.mc.motionEp, parkEp := s.mc.parkEp, parkhold := s.mc.parkhold, range := s.mc.range
          allowed := match s.mc.mode with
            | .pump => if s.mc.accepted.pumprange then .full else .off
            | .roll => .floor
            | _ => .off
          rolling := s.rolling, graceTimer := s.mc.graceTimer, overEp := s.mc.overEp, overSpeed := s.mc.overSpeed
          rollLimit := s.par.rollLimit, band := s.par.overspeedBand }) s)
    ∧ exec .readSpeeds s = .next (answered 0x12 .ok (.speeds
        ⟨speed s.pcu.eng, speed s.pcu.pump, speed s.pcu.road, s.pcu.engineStopped, s.pcu.stopTimer, level s.pcu.l0,
          level s.pcu.l1, level s.pcu.l2⟩) s)
    ∧ exec .readGovernor s = .next (answered 0x13 .ok (.governor
        { state := s.pg.state, governing := s.pg.governing, demand := s.pg.demand, ceiling := s.pg.ceiling
          cPath := s.pg.cPath, cCav := s.pg.cCav, cSupply := s.pg.cSupply, supplyCase := s.pg.supplyCase
          cRoll := s.pg.cRoll, lastStep := s.pg.lastStep, relief := s.pg.relief, thrDuty := s.pg.thrDuty
          thrMode := s.pg.thrMode, idle := s.par.idle, pumpMax := s.par.pumpMax, nextUpdate := s.pg.updateTimer
          pdis := pressure s.pi.pdis, pint := pressure s.pi.pint }) s)
    ∧ exec (.readTank (some 0)) s = .next (answered 0x14 .ok (.tank (tank .water s.tk.t0)) s)
    ∧ exec (.readTank (some 1)) s = .next (answered 0x14 .ok (.tank (tank .foam s.tk.t1)) s)
    ∧ exec (.readTank (some 2)) s = .next (answered 0x14 .ok (.tank (tank .foam s.tk.t2)) s)
    ∧ (∀ n, 2 < n → exec (.readTank (some n)) s = .next (answered 0x14 .badArg .empty s))
    ∧ exec (.readTank none) s = .next (answered 0x14 .badArg .empty s)
    ∧ exec .readPresetResult s = .next (answered 0x19 .ok (.presetResult s.pe.result (s.pe.apply.map Apply.timer)) s)
    ∧ exec .readFault s = .next (answered 0x22 .ok
        (.faults s.fc.standard s.fc.also s.fc.critical s.fc.lockdown s.fc.lockdownCap) s)
    ∧ (s.ps.validated = false ∨ s.ps.op.isSome = true → ∀ g, exec (.profileRead g) s = .next (answered 0x30 .busy .empty s))
    ∧ (s.ps.validated = true → s.ps.op = none →
        exec (.profileRead none) s = .next (answered 0x30 .badArg .empty s)
        ∧ (∀ g, 11 < g → exec (.profileRead (some g)) s = .next (answered 0x30 .badArg .empty s))
        ∧ (∀ g x c, g ≤ 11 → s.ps.groups[g]? = some x → s.ps.conds[g]? = some c →
            exec (.profileRead (some g)) s = .next (answered 0x30 .ok (.group g c x.data x.check s.ps.validity s.ps.locked) s)))

/-! ## Profile Store -/

/-- R188, R189: a piece's checks in order, a refused piece changing nothing, the staging record included. A piece that leaves its
group short is staged and answered OK with the staged count. The piece that completes it has the whole group checked: the first
failing word answers BAD_ARG with its offset and discards the staging; a group that passes is accepted, with the check word erased
in the store and 60 ms on the write timer, and its check word to come makes the words sum to 0. R151: the words to come are the
staged ones, but that in a preset group the check byte of each template in use is set so that the template's bytes sum to 0; the
fields read from it are those of the staged words. Which contents pass is said group by group: every value in its range and every
order kept for group 0 (R4, R29, R57, R76, R93, R112, R117, R133), the flag, the role and, for a present tank, the ranges and orders
of R100 and R133 for a tank's group, the ranges of R151 and R4 for a preset's, and 0 in every word that R186 asks it of. Which word
fails first is the model's where the places of the fields and their codes decide it (logs 19, 20), where a setpoint of a template is
held to the stored group 0's limits (log 21), and where an order of two words fails, which is charged to the later one (log 22). -/
def Obligations.ProfileWriteStagesAndAccepts : Prop :=
  (∀ (lim : Limits) (g : Nat) (ws : List Word), firstFailure lim g ws = none ↔ GroupPasses lim g ws)
  ∧ ∀ (p : Piece) (s : State), Serving s →
    let size : Nat := if p.group = 0 then 48 else if p.group ≤ 3 then 45 else 37
    let refused : Result → Prop := fun r => exec (.profileWrite (some p)) s = .next (answered 0x31 r .empty s)
    let fits : Prop := p.group ≤ 11 ∧ 1 ≤ p.words.length ∧ p.words.length ≤ 28 ∧ p.offset + p.words.length ≤ size
      ∧ (p.offset = 0 ∨ ∃ g, s.ps.staging = some g ∧ g.group = p.group ∧ p.offset = g.words.length)
    (s.fc.lockdown = true → refused .lockdown)
    ∧ (s.fc.lockdown = false →
      (s.ps.validated = false ∨ s.ps.op.isSome = true → refused .busy)
      ∧ (s.ps.validated = true → s.ps.op = none →
        exec (.profileWrite none) s = .next (answered 0x31 .badArg .empty s)
        ∧ (¬fits → refused .badArg)
        ∧ (fits → s.ps.locked = true → refused .locked)
        ∧ (fits → s.ps.locked = false → s.pe.apply.isSome = true → refused .busy)
        ∧ (fits → s.ps.locked = false → s.pe.apply = none →
            s.dt.records ≠ [] ∨ (∃ r, (s.res r).cmd = true) ∨ s.rm.shift.isSome = true → refused .notPermitted)
        ∧ (∀ before, fits → s.ps.locked = false → s.pe.apply = none → s.dt.records = [] → (∀ r, (s.res r).cmd = false) →
            s.rm.shift = none →
            (p.offset = 0 → before = []) → (p.offset ≠ 0 → s.ps.staging = some ⟨p.group, before⟩) →
            let ws := before ++ p.words
            (ws.length < size → exec (.profileWrite (some p)) s = .next (answered 0x31 .ok (.staged ws.length)
              { s with ps := { s.ps with staging := some ⟨p.group, ws⟩ } }))
            ∧ (∀ i, ws.length = size → firstFailure s.ps.limits p.group ws = some i →
              exec (.profileWrite (some p)) s = .next (answered 0x31 .badArg (.badWord i)
                { s with ps := { s.ps with staging := none } }))
            ∧ (ws.length = size → firstFailure s.ps.limits p.group ws = none → ∃ data check,
              exec (.profileWrite (some p)) s = .next (answered 0x31 .accepted .empty { s with ps := { s.ps with
                  groups := s.ps.groups.set p.group { s.ps.group p.group with check := 0xFFFF, torn := true }
                  staging := none
                  op := some (.write p.group data check 60) } })
                ∧ sumWords data + check = 0 ∧ data.length = size ∧ (p.group ≤ 3 → data = ws)
                ∧ (4 ≤ p.group → templateCountOf data = templateCountOf ws ∧ ∀ k, k < 6 →
                    if k < templateCountOf ws then templateGood (templateAt data k) = true
                      ∧ templateRead (templateAt data k) = templateRead (templateAt ws k)
                      ∧ ∀ j, j ≠ Config.templateCheckByte.val →
                          (bytesOf (templateAt data k))[j]? = (bytesOf (templateAt ws k))[j]?
                    else templateAt data k = templateAt ws k)))))

/-- R190: PROFILE_ERASE's checks in order and its acceptance, which erases group 0's check word and starts 400 ms; PROFILE_LOCK
sets the lock flag; PROFILE_UNLOCK clears it on a BLANK profile and is LOCKED otherwise. -/
def Obligations.EraseLockUnlock : Prop :=
  ∀ s : State, Serving s →
    (s.fc.lockdown = true → ∀ p ∈ [(Instr.profileErase, (0x32 : Byte)), (.profileLock, 0x33), (.profileUnlock, 0x34)],
      exec p.1 s = .next (answered p.2 .lockdown .empty s))
    ∧ (s.fc.lockdown = false → s.ps.validated = false ∨ s.ps.op.isSome = true →
      ∀ p ∈ [(Instr.profileErase, (0x32 : Byte)), (.profileLock, 0x33), (.profileUnlock, 0x34)],
        exec p.1 s = .next (answered p.2 .busy .empty s))
    ∧ (s.fc.lockdown = false → s.ps.validated = true → s.ps.op = none →
      exec .profileLock s = .next (answered 0x33 .ok .empty { s with ps := { s.ps with locked := true } })
      ∧ (s.ps.validity = .blank →
          exec .profileUnlock s = .next (answered 0x34 .ok .empty { s with ps := { s.ps with locked := false } }))
      ∧ (s.ps.validity ≠ .blank → exec .profileUnlock s = .next (answered 0x34 .locked .empty s))
      ∧ (s.pe.apply.isSome = true → exec .profileErase s = .next (answered 0x32 .busy .empty s))
      ∧ (s.pe.apply = none → s.dt.records ≠ [] ∨ (∃ r, (s.res r).cmd = true) ∨ s.rm.shift.isSome = true →
          exec .profileErase s = .next (answered 0x32 .notPermitted .empty s))
      ∧ (s.pe.apply = none → s.dt.records = [] → (∀ r, (s.res r).cmd = false) → s.rm.shift = none →
          exec .profileErase s = .next (answered 0x32 .accepted .empty { s with ps := { s.ps with
            groups := s.ps.groups.set 0 { s.ps.group 0 with check := 0xFFFF, torn := true }
            staging := none
            op := some (.erase 400) } })))

/-- R189, R190, R186: a write that completes stores its words and check, makes its group GOOD, recomputes the validity, takes the
values of group 0 into use where the profile is VALID and group 0 was written or the validity has just become VALID, and raises
PROFILE_DONE. R130: with them, in a part at rest, the governor's C_cav is the pump maximum, C_roll that or idle in an episode,
C_path and C_supply are taken from the new values, the ceiling follows, and the demand is idle in OFF and else held between idle and
the ceiling; that in ROLL C_path is the new roll floor maximum at once, while THRMODE is OFF beside OFF and IDLE_HOLD, so that the
floor R76 has it cap is next driven at an update, and that the supply case is that last stored, is the model's reading (log 24).
R109, R134: the level channel and the tank of the written tank group, or all three where the profile has become VALID, take the
group: a tank not present leaves its channel not configured and UNREFERENCED without a drift flag and is ABSENT; a present one's
channel keeps its state exactly where it was configured with this X mode and reference count, and the tank is UNREFERENCED with a
seed pending, TANK_CHANGED set where a state changed. R151: under a VALID profile the count of the written preset is taken, or all
eight where it has become VALID. An erase that completes leaves every word 0xFFFF, every group and the profile BLANK, the values of
the last column in use, the governor OFF and no preset known (for maximum pressure setpoint, slip tolerance and pump ratio, to which
R4 and R29 give no value then, the model's choice, log 27); the tanks and level channels keep their configurations and the lock flag
stays. With no operation of its kind in progress a completion does nothing. That the template counts stand where a write leaves the
profile not VALID is the model's reading (log 33). The premise is the store's shape, which every step keeps: it rules out states
that no run reaches. -/
def Obligations.StoreOperationsComplete : Prop :=
  ∀ s : State,
    (s.ps.op = none → exec .profileWriteCompletion s = .next s ∧ exec .profileEraseCompletion s = .next s)
    ∧ (∀ g data check n, s.ps.op = some (.write g data check n) → exec .profileEraseCompletion s = .next s)
    ∧ (∀ n, s.ps.op = some (.erase n) → exec .profileWriteCompletion s = .next s)
    ∧ (∀ g data check n, StoreShape s → s.ps.op = some (.write g data check n) →
      let conds := s.ps.conds.set g .good
      ∃ t, exec .profileWriteCompletion s = .next t
        ∧ t.ps = { s.ps with
            groups := s.ps.groups.set g ⟨data, check, false⟩, conds := conds, op := none
            validity := if conds.all (· == .blank) then .blank else if conds.all (· == .good) then .valid else .invalid }
        ∧ (t.par = if t.ps.validity = .valid ∧ (g = 0 ∨ s.ps.validity ≠ .valid)
            then paramsOf (t.ps.group 0).data else s.par)
        ∧ (let p := t.par
           let became : Prop := s.ps.validity ≠ .valid ∧ t.ps.validity = .valid
           let used : Prop := t.ps.validity = .valid ∧ (g = 0 ∨ s.ps.validity ≠ .valid)
           let counts : List (Option Nat) := (List.range 8).map (fun n => some (templateCountOf (t.ps.group (4 + n)).data))
           (t.ps.validity ≠ .valid → t.pe.counts = s.pe.counts) ∧ (became → t.pe.counts = counts)
           ∧ (t.ps.validity = .valid → ¬became → t.pe.counts =
              if 4 ≤ g then s.pe.counts.set (g - 4) (some (templateCountOf (t.ps.group g).data)) else s.pe.counts)
           ∧ (AtRest s → ¬used → t.pg = s.pg)
           ∧ (AtRest s → used →
              let cPath : Int := if s.mc.mode = .roll then p.rollFloorMax else p.pumpMax
              let cSupply : Int := if s.pg.supplyCase = 1 then p.idle else if s.pg.supplyCase = 2 then p.reserveCeiling
                else if s.pg.supplyCase = 3 then p.noFlowCeiling else p.pumpMax
              let cRoll : Int := if s.mc.overEp then p.idle else p.pumpMax
              let ceiling : Int := max (p.idle : Int) (min (min cPath p.pumpMax) (min cSupply cRoll))
              let demand : Int := if s.pg.state = .off then p.idle else max (p.idle : Int) (min s.pg.demand ceiling)
              t.pg = { s.pg with
                cPath := cPath, cCav := p.pumpMax, cSupply := cSupply, cRoll := cRoll, ceiling := ceiling, demand := demand
                thrDuty := ((demand - p.idle) * 1000).tdiv ((p.pumpMax : Int) - p.idle)
                thrMode := if s.pg.state = .off then .off else if s.mc.mode = .pump then .full
                  else if s.mc.mode = .roll ∧ s.pg.state ≠ .idleHold then .floor else .off })
           ∧ (∀ q ∈ [(TankId.t0, 1), (TankId.t1, 2), (TankId.t2, 3)],
              let c := s.pcu.level q.1
              let k := s.tk.get q.1
              let ws := (t.ps.group q.2).data
              let loads : Prop := became ∨ g = q.2
              let same : Prop := c.configured = true ∧ c.xmode = tankXMode ws ∧ c.refCount = tankRefCount ws
              (¬loads → t.pcu.level q.1 = c ∧ ∃ w x, t.tk.get q.1 = { k with draw := w, tte := x })
              ∧ (loads →
                t.pcu.level q.1 = (if tankPresentOf ws = true then { c with
                    configured := true, xmode := tankXMode ws, refCount := tankRefCount ws, driftLimit := tankDriftLimit ws
                    state := if same then c.state else .unreferenced }
                  else { c with configured := false, state := .unreferenced, driftFlag := false })
                ∧ ∃ w, t.tk.get q.1 = if tankPresentOf ws = true
                  then ⟨true, none, none, none, w, none, .unreferenced, none, true, some (tankCfgOf ws), k.chan⟩
                  else ⟨false, some 0, some 0, some 0, 0, some 65535, .absent, none, false, none, k.chan⟩)
              ∧ (loads → DrawsAgree t)
              ∧ ((t.tk.get q.1).state ≠ k.state → t.cp.flags.tankChanged = true)))
        ∧ t.cp.flags.profileDone = true ∧ t.pi = s.pi ∧ t.sys = s.sys ∧ t.fc.standard = s.fc.standard)
    ∧ (∀ n, StoreShape s → s.ps.op = some (.erase n) → AtRest s →
      ∃ t, exec .profileEraseCompletion s = .next t
        ∧ t.ps = { s.ps with
            groups := (List.range 12).map (fun g => ⟨List.replicate (groupSize g) 0xFFFF, 0xFFFF, false⟩)
            conds := List.replicate 12 .blank
            validity := .blank
            op := none }
        ∧ t.par = invalidParams ∧ t.pe = { s.pe with counts := List.replicate 8 none }
        ∧ t.pg.state = .off ∧ (s.pg.state ≠ .off → t.pg.thrDuty = 0 ∧ t.pg.thrMode = .off ∧ t.pg.demand = 700)
        ∧ t.cp.flags.profileDone = true ∧ t.dt = s.dt ∧ t.rm = s.rm ∧ t.mc = s.mc ∧ t.pcu = s.pcu ∧ t.pi = s.pi
        ∧ t.tk = s.tk ∧ t.fc = s.fc ∧ t.sys = s.sys)

/-! ## Resets and start-up -/

/-- R191, R192 stage 1, R3, R49, R59, R65, R69, R94, R99, R110, R116, R118, R132, R152, R161, R179, R186: what a reset leaves. A
cold reset reaches the level channels, a warm one leaves them; the kind recorded is COLD over POWER over PIN when causes overlap;
the store's groups (with no write in progress) and the lock flag are kept. At the reset's end the periodic timers and the stillness
timer start. R69, R128, R129, R146, R147, R180: the output lines are undriven while VMAIN is off and otherwise show the state, RANGE
and THRMODE by their two lines each; from the moment a reset begins with VMAIN on they show PARKHOLD on, NEUTRAL_ONLY, no throttle,
closed valves, no attention, and the drives as the lines have them. The confirmed positions at a reset are the model's (log 6) and
are not stated; the values in use are those of the last column of the parameter tables, and for the maximum pressure setpoint, the
slip tolerance and the pump ratio, to which R4 and R29 give none there, the model's choice (log 27); which cause leaves VMAIN on or
off, and that it counts as on from the reset's end, is the model's choice (log 16). -/
def Obligations.ResetsLeaveTheResetValues : Prop :=
  (∀ (k : Option WarmCause) (s : State),
    let kind : ResetKind := match k with
      | none => .cold
      | some .pin => .pin
      | some _ => .power
    let recorded : ResetKind :=
      if s.sys.resetActive = false then kind
      else if kind = .cold ∨ s.cp.resetKind = .cold then .cold
      else if kind = .power ∨ s.cp.resetKind = .power then .power else .pin
    let l := s.sys.lines
    let command : Instr := match k with
      | none => .coldReset
      | some c => .warmReset c
    ∃ t, exec command s = .next t
      ∧ t.sys.resetActive = true ∧ t.par = invalidParams
      ∧ t.dt = ⟨List.replicate 24 ⟨0, .free⟩, []⟩
      ∧ t.rm.split.cmd = (l.shpump && !l.shroad) ∧ t.rm.ptor.cmd = (l.ptorOn && !(l.shpump && !l.shroad))
      ∧ t.rm.ptoa.cmd = l.ptoaOn ∧ t.rm.ptob.cmd = l.ptobOn
      ∧ (∀ r, (t.res r).holders = 0 ∧ (t.res r).orphan = false ∧ (t.res r).cut = false ∧ (t.res r).driftTimer = none)
      ∧ t.rm.queue = [] ∧ t.rm.shift = none ∧ t.rm.adoption = none
      ∧ t.mc.mode = .indeterminate ∧ t.mc.parkhold = true ∧ t.mc.range = .neutralOnly ∧ t.mc.still = false
      ∧ t.mc.sampleTimer = none ∧ t.mc.inited = false ∧ t.mc.derived = false
      ∧ t.pcu.eng = ⟨0, [], 0⟩ ∧ t.pcu.pump = ⟨0, [], 0⟩ ∧ t.pcu.road = ⟨0, [], 0⟩ ∧ t.pcu.engineStopped = true
      ∧ (∀ i, t.pcu.level i = if k.isSome then s.pcu.level i
          else ⟨false, .x4, 1, 1000, 0, .none, .unreferenced, 0, 0, false, false, false, none⟩)
      ∧ t.pi.pdis = ⟨.noData, [], 0, 0, none⟩ ∧ t.pi.pint = ⟨.noData, [], 0, 0, none⟩
      ∧ t.pg.state = .off ∧ t.pg.thrDuty = 0 ∧ t.pg.thrMode = .off ∧ t.pg.demand = 700 ∧ t.pg.ceiling = 2200
      ∧ (∀ i, (t.tk.get i).state = .absent) ∧ t.tk.tankvlv = false ∧ t.tk.foam1 = false ∧ t.tk.foam2 = false
      ∧ t.pe = ⟨none, .none, List.replicate 8 none⟩ ∧ t.fc = ⟨none, [], none, false, none⟩
      ∧ t.cp.flags = noAtt ∧ t.cp.mask = allAtt ∧ t.cp.attn = false ∧ t.cp.resetKind = recorded
      ∧ t.cp.answer = ⟨0x00, .empty, .empty⟩ ∧ t.cp.resync = false
      ∧ t.ps.locked = s.ps.locked ∧ t.ps.op = none ∧ t.ps.staging = none ∧ t.ps.validity = .invalid ∧ t.ps.validated = false
      ∧ (s.ps.op = none → t.ps.groups = s.ps.groups)
      ∧ t.sys.vmain = (match k with
          | some .powerUp => true
          | some .supplyOff => false
          | _ => s.sys.vmain)
      ∧ (t.sys.vmain = true → t.outputLines = some
          { shift := l.shpump && !l.shroad, ptor := l.ptorOn && !(l.shpump && !l.shroad), ptoa := l.ptoaOn, ptob := l.ptobOn
            parkhold := true, range := (true, false), thr := 0, thrMode := (false, false)
            tankvlv := false, foam1 := false, foam2 := false, attn := false }))
  ∧ (∀ s : State,
    (s.sys.resetActive = false → exec .resetEnd s = .next s)
    ∧ (s.sys.resetActive = true → exec .resetEnd s = .next { s with
        sys := { s.sys with resetActive := false, vmain := true }
        mc := { s.mc with sampleTimer := some 5, stillTimer := some 1000 }
        pcu := { s.pcu with windowTimer := some 100 }
        pi := { s.pi with convTimer := some 10 }
        pg := { s.pg with updateTimer := some 100 }
        tk := { s.tk with updateTimer := some 200 } }))
  ∧ (∀ s : State,
    (s.sys.vmain = false → s.outputLines = none)
    ∧ (s.sys.vmain = true → s.outputLines = some
        { shift := s.rm.split.cmd, ptor := s.rm.ptor.cmd, ptoa := s.rm.ptoa.cmd, ptob := s.rm.ptob.cmd
          parkhold := s.mc.parkhold
          range := match s.mc.range with
            | .free => (false, false)
            | .neutralOnly => (true, false)
            | .pumpOnly => (false, true)
            | .lowOnly => (true, true)
          thr := s.pg.thrDuty
          thrMode := match s.pg.thrMode with
            | .off => (false, false)
            | .full => (true, false)
            | .floor => (false, true)
          tankvlv := s.tk.tankvlv, foam1 := s.tk.foam1, foam2 := s.tk.foam2, attn := s.cp.attn }))

/-- R192 stage 3, R186, R49, R67: the validation's completion sets the conditions from the stored words and the validity, captures
PROFILE_BAD for an INVALID profile, takes the values of a VALID one into use, marks each resource found at its engaged position
orphan with that command (PTOR not beside SPLIT at PUMP), starts the adoption window if any is, sets the pump path, and derives
the mode. R118, R109, R134, R151: under a VALID profile the governor's demand is idle, C_cav and C_roll are the pump maximum, and
the ceiling follows with the mode and the supply case as last stored (log 24); the three level channels and tanks take their
groups as at a write's completion, and the template counts of all eight presets are taken; otherwise these stand. R108: then the
channels report in the order L0, L1, L2, each LEVEL_SENSOR where it is configured and in FAULT or with a fault pending, and
LEVEL_DRIFT where its drift flag is set, which clears the flags; that each channel's drift follows its own fault is the model's
choice (log 30). Together with PROFILE_BAD before them, the first report fills an empty standard slot and the others join the
also set; a filled slot stands and all of them join (R164). A stopped timer expires in nothing. That a
preset group's setpoints are held to the stored group 0's limits is the model's reading (log 21). -/
def Obligations.ValidationCompletesStartUp : Prop :=
  ∀ s : State,
    (s.ps.validationTimer = none → exec .validationCompletion s = .next s)
    ∧ (s.ps.validationTimer.isSome = true → s.cp.resync = false →
      let conds := (List.range 12).map (fun g => conditionOf s.ps.limits g (s.ps.group g))
      ∃ t, exec .validationCompletion s = .next t
        ∧ t.ps = { s.ps with
            conds := conds, validationTimer := none, validated := true
            validity := if conds.all (· == .blank) then .blank else if conds.all (· == .good) then .valid else .invalid }
        ∧ (t.ps.validity = .invalid → s.fc.standard = none →
            ∃ c, t.fc.standard = some c ∧ c.cause = .profileBad ∧ c.res = none)
        ∧ (t.ps.validity = .blank → s.fc.standard = none → (∀ i, (s.pcu.level i).configured = false) →
            (∀ i, (s.pcu.level i).driftFlag = false) → t.fc.standard = none)
        ∧ (let found : TankId → Nat → List Cause := fun i g =>
             let c := s.pcu.level i
             let ws := (s.ps.group g).data
             let loads : Bool := t.ps.validity == .valid
             let present : Bool := if loads then tankPresentOf ws else c.configured
             let same : Bool := c.configured && c.xmode == tankXMode ws && c.refCount == tankRefCount ws
             let fault : Bool := c.state == .fault && (!loads || same)
             (if present && (fault || c.faultPending) then [.levelSensor] else [])
               ++ (if c.driftFlag && (!loads || present) then [.levelDrift] else [])
           let reports : List Cause := (if t.ps.validity = .invalid then [.profileBad] else [])
             ++ found .t0 1 ++ found .t1 2 ++ found .t2 3
           (s.fc.standard = none → t.fc.standard.map Capture.cause = reports.head?
             ∧ ∀ k, k ∈ t.fc.also ↔ k ∈ s.fc.also ∨ k ∈ reports.tail)
           ∧ (s.fc.standard.isSome = true → t.fc.standard = s.fc.standard
             ∧ ∀ k, k ∈ t.fc.also ↔ k ∈ s.fc.also ∨ k ∈ reports))
        ∧ t.par = (if t.ps.validity = .valid then paramsOf (s.ps.group 0).data else s.par)
        ∧ t.pe.counts = (if t.ps.validity = .valid
            then (List.range 8).map (fun n => some (templateCountOf (s.ps.group (4 + n)).data)) else s.pe.counts)
        ∧ (t.ps.validity = .valid →
          t.pg.demand = t.par.idle ∧ t.pg.cCav = t.par.pumpMax ∧ t.pg.cRoll = t.par.pumpMax
          ∧ t.pg.cPath = (if s.mc.mode = .roll then (t.par.rollFloorMax : Int) else t.par.pumpMax)
          ∧ t.pg.ceiling = max (t.par.idle : Int) (min (min t.pg.cPath t.pg.cCav) (min t.pg.cSupply t.pg.cRoll)))
        ∧ (∀ q ∈ [(TankId.t0, 1), (TankId.t1, 2), (TankId.t2, 3)],
          let c := s.pcu.level q.1
          let k := s.tk.get q.1
          let ws := (s.ps.group q.2).data
          let same : Prop := c.configured = true ∧ c.xmode = tankXMode ws ∧ c.refCount = tankRefCount ws
          let taken : LevelChan :=
            if t.ps.validity ≠ .valid then c
            else if tankPresentOf ws = false then { c with configured := false, state := .unreferenced }
            else { c with
              configured := true, xmode := tankXMode ws, refCount := tankRefCount ws, driftLimit := tankDriftLimit ws
              state := if same then c.state else .unreferenced }
          t.pcu.level q.1 = { taken with
            driftFlag := false, faultPending := if taken.configured = true then false else c.faultPending }
          ∧ (∃ w x, t.tk.get q.1 = if t.ps.validity ≠ .valid then { k with draw := w, tte := x }
              else if tankPresentOf ws = true
              then ⟨true, none, none, none, w, none, .unreferenced, none, true, some (tankCfgOf ws), k.chan⟩
              else ⟨false, some 0, some 0, some 0, 0, some 65535, .absent, none, false, none, k.chan⟩))
        ∧ (t.ps.validity = .valid → s.dt.records = [] → DrawsAgree t)
        ∧ t.mc.derived = true ∧ t.mc.mode = t.modeOf
        ∧ (t.fc.lockdown = false →
          t.rm.split.conf = s.mc.splitPos ∧ t.rm.split.cmd = (s.mc.splitPos == .engaged)
          ∧ t.rm.split.orphan = (s.mc.splitPos == .engaged)
          ∧ t.rm.ptor.cmd = (s.mc.accepted.ptorOn && s.mc.splitPos != .engaged) ∧ t.rm.ptor.orphan = t.rm.ptor.cmd
          ∧ t.rm.ptoa.cmd = s.mc.accepted.ptoaOn ∧ t.rm.ptoa.orphan = s.mc.accepted.ptoaOn
          ∧ t.rm.ptob.cmd = s.mc.accepted.ptobOn ∧ t.rm.ptob.orphan = s.mc.accepted.ptobOn
          ∧ t.rm.adoption = (if t.rm.split.orphan || t.rm.ptor.orphan || t.rm.ptoa.orphan || t.rm.ptob.orphan
              then some (t.par.adoptionWindow * 1000) else none)
          ∧ t.rm.pumpPath = (s.mc.splitPos == .engaged || s.mc.accepted.ptorOn)))

/-! ## What every step keeps -/

/-- R37, R39, R69, R180, R191: no step drives SHIFT to PUMP and PTOR to ENGAGED together, leaves PARKHOLD and RANGE otherwise than
R69's table gives them for the mode, or leaves ATTN otherwise than the flags and the mask give it. -/
def Obligations.OutputsStaySafe : Prop :=
  let lockouts : State → Prop := fun s => (s.mc.parkhold, s.mc.range) = match s.mc.mode with
    | .road => (false, .free)
    | .shifting => (true, .neutralOnly)
    | .pump => (true, .pumpOnly)
    | .roll => (false, .lowOnly)
    | .indeterminate => (true, .neutralOnly)
    | .lockdown => (true, .neutralOnly)
  ∀ s t : State, NeverBothDrives s ∧ lockouts s ∧ AttnAgrees s → step s = .next t →
    NeverBothDrives t ∧ lockouts t ∧ AttnAgrees t

/-- R66, R67: from its first derivation on the mode stays, through every command, the one that R66's six tests give in their order:
LOCKDOWN while the lockdown flag is set; INDETERMINATE while the split position is UNKNOWN (SHROAD and SHPUMP accepted alike, R61) and
no SPLIT shift is in flight; SHIFTING while a shift of SPLIT or an ENGAGE of any resource is in flight, in any stage; PUMP while
SPLIT is confirmed at PUMP; ROLL while PTOR is confirmed ENGAGED and SPLIT confirmed at ROAD; ROAD otherwise. That the split position
counts as UNKNOWN before the first sample, when R61 gives it no value, is the model's choice (log 5). -/
def Obligations.ModeStaysDerived : Prop :=
  let derivedMode : State → Mode := fun s =>
    let splitShift : Bool := s.rm.shift.any (fun sh => sh.res == .split)
    let engageShift : Bool := s.rm.shift.any (fun sh => sh.op == .engage)
    let unknown : Bool := !s.mc.inited || s.mc.accepted.shroad == s.mc.accepted.shpump
    if s.fc.lockdown then .lockdown
    else if unknown && !splitShift then .indeterminate
    else if splitShift || engageShift then .shifting
    else if s.rm.split.conf = .engaged then .pump
    else if s.rm.ptor.conf = .engaged ∧ s.rm.split.conf = .disengaged then .roll
    else .road
  ∀ s t : State, (s.mc.derived = true → s.mc.mode = derivedMode s) → step s = .next t →
    t.mc.derived = true → t.mc.mode = derivedMode t

/-- R167, R119: while the lockdown flag is set every record is FORFEIT, the queue is empty, no shift and no apply is in flight,
the governor is OFF and THRMODE is OFF, through every command. -/
def Obligations.LockdownStaysClosed : Prop :=
  ∀ s t : State, LockdownHolds s → step s = .next t → LockdownHolds t

/-- R1, R10, R155: the table keeps its 24 slots with generations 0 to 15, never holds non-FORFEIT records of both pump kinds, and
never two non-FORFEIT DISCHARGE records of one outlet. R186, R188, R175, R183: the store keeps its twelve groups and conditions, and
while a write or an erase runs the table stays empty, no apply is in flight and no RESYNC in progress. R55, R183, R185: the shift slot
is closed exactly while a RESYNC is in progress, and one that is in progress waits on a shift in ACTUATE or SETTLE, outside lockdown
and with no apply in flight. -/
def Obligations.TableStaysConsistent : Prop :=
  ∀ s t : State, step s = .next t →
    (TableShape s ∧ OnePumpKind s ∧ OutletsDiffer s → TableShape t ∧ OnePumpKind t ∧ OutletsDiffer t)
    ∧ (StoreShape s → StoreShape t)
    ∧ (ResyncWaits s → ResyncWaits t)

/-- The promises that every step keeps hold in the state after reset. -/
def Obligations.PromisesHoldAtReset : Prop :=
  NeverBothDrives State.reset ∧ LockoutsAgree State.reset ∧ AttnAgrees State.reset ∧ ModeAgrees State.reset
    ∧ LockdownHolds State.reset ∧ TableShape State.reset ∧ OnePumpKind State.reset ∧ OutletsDiffer State.reset
    ∧ StoreShape State.reset ∧ ResyncWaits State.reset
end

