-- ==== Sys2Proof/Laws/State.lean ====
section
/-! SUPPORT. What each update of the state leaves in each field: one lemma per field per update, so that no later proof
unfolds a record update. -/
namespace Sys2Proof.Machine.State

section
variable (s : State) (x : Sys)

@[simp] theorem setSys_sys : (s.setSys x).sys = x := rfl
@[simp] theorem setSys_par : (s.setSys x).par = s.par := rfl
@[simp] theorem setSys_cp : (s.setSys x).cp = s.cp := rfl
@[simp] theorem setSys_dt : (s.setSys x).dt = s.dt := rfl
@[simp] theorem setSys_rm : (s.setSys x).rm = s.rm := rfl
@[simp] theorem setSys_mc : (s.setSys x).mc = s.mc := rfl
@[simp] theorem setSys_pcu : (s.setSys x).pcu = s.pcu := rfl
@[simp] theorem setSys_pi : (s.setSys x).pi = s.pi := rfl
@[simp] theorem setSys_pg : (s.setSys x).pg = s.pg := rfl
@[simp] theorem setSys_tk : (s.setSys x).tk = s.tk := rfl
@[simp] theorem setSys_pe : (s.setSys x).pe = s.pe := rfl
@[simp] theorem setSys_fc : (s.setSys x).fc = s.fc := rfl
@[simp] theorem setSys_ps : (s.setSys x).ps = s.ps := rfl
@[simp] theorem setSys_pending : (s.setSys x).pending = s.pending := rfl

end

section
variable (s : State) (x : Params)

@[simp] theorem setPar_sys : (s.setPar x).sys = s.sys := rfl
@[simp] theorem setPar_par : (s.setPar x).par = x := rfl
@[simp] theorem setPar_cp : (s.setPar x).cp = s.cp := rfl
@[simp] theorem setPar_dt : (s.setPar x).dt = s.dt := rfl
@[simp] theorem setPar_rm : (s.setPar x).rm = s.rm := rfl
@[simp] theorem setPar_mc : (s.setPar x).mc = s.mc := rfl
@[simp] theorem setPar_pcu : (s.setPar x).pcu = s.pcu := rfl
@[simp] theorem setPar_pi : (s.setPar x).pi = s.pi := rfl
@[simp] theorem setPar_pg : (s.setPar x).pg = s.pg := rfl
@[simp] theorem setPar_tk : (s.setPar x).tk = s.tk := rfl
@[simp] theorem setPar_pe : (s.setPar x).pe = s.pe := rfl
@[simp] theorem setPar_fc : (s.setPar x).fc = s.fc := rfl
@[simp] theorem setPar_ps : (s.setPar x).ps = s.ps := rfl
@[simp] theorem setPar_pending : (s.setPar x).pending = s.pending := rfl

end

section
variable (s : State) (x : CP)

@[simp] theorem setCp_sys : (s.setCp x).sys = s.sys := rfl
@[simp] theorem setCp_par : (s.setCp x).par = s.par := rfl
@[simp] theorem setCp_cp : (s.setCp x).cp = x := rfl
@[simp] theorem setCp_dt : (s.setCp x).dt = s.dt := rfl
@[simp] theorem setCp_rm : (s.setCp x).rm = s.rm := rfl
@[simp] theorem setCp_mc : (s.setCp x).mc = s.mc := rfl
@[simp] theorem setCp_pcu : (s.setCp x).pcu = s.pcu := rfl
@[simp] theorem setCp_pi : (s.setCp x).pi = s.pi := rfl
@[simp] theorem setCp_pg : (s.setCp x).pg = s.pg := rfl
@[simp] theorem setCp_tk : (s.setCp x).tk = s.tk := rfl
@[simp] theorem setCp_pe : (s.setCp x).pe = s.pe := rfl
@[simp] theorem setCp_fc : (s.setCp x).fc = s.fc := rfl
@[simp] theorem setCp_ps : (s.setCp x).ps = s.ps := rfl
@[simp] theorem setCp_pending : (s.setCp x).pending = s.pending := rfl

end

section
variable (s : State) (x : DT)

@[simp] theorem setDt_sys : (s.setDt x).sys = s.sys := rfl
@[simp] theorem setDt_par : (s.setDt x).par = s.par := rfl
@[simp] theorem setDt_cp : (s.setDt x).cp = s.cp := rfl
@[simp] theorem setDt_dt : (s.setDt x).dt = x := rfl
@[simp] theorem setDt_rm : (s.setDt x).rm = s.rm := rfl
@[simp] theorem setDt_mc : (s.setDt x).mc = s.mc := rfl
@[simp] theorem setDt_pcu : (s.setDt x).pcu = s.pcu := rfl
@[simp] theorem setDt_pi : (s.setDt x).pi = s.pi := rfl
@[simp] theorem setDt_pg : (s.setDt x).pg = s.pg := rfl
@[simp] theorem setDt_tk : (s.setDt x).tk = s.tk := rfl
@[simp] theorem setDt_pe : (s.setDt x).pe = s.pe := rfl
@[simp] theorem setDt_fc : (s.setDt x).fc = s.fc := rfl
@[simp] theorem setDt_ps : (s.setDt x).ps = s.ps := rfl
@[simp] theorem setDt_pending : (s.setDt x).pending = s.pending := rfl

end

section
variable (s : State) (x : RM)

@[simp] theorem setRm_sys : (s.setRm x).sys = s.sys := rfl
@[simp] theorem setRm_par : (s.setRm x).par = s.par := rfl
@[simp] theorem setRm_cp : (s.setRm x).cp = s.cp := rfl
@[simp] theorem setRm_dt : (s.setRm x).dt = s.dt := rfl
@[simp] theorem setRm_rm : (s.setRm x).rm = x := rfl
@[simp] theorem setRm_mc : (s.setRm x).mc = s.mc := rfl
@[simp] theorem setRm_pcu : (s.setRm x).pcu = s.pcu := rfl
@[simp] theorem setRm_pi : (s.setRm x).pi = s.pi := rfl
@[simp] theorem setRm_pg : (s.setRm x).pg = s.pg := rfl
@[simp] theorem setRm_tk : (s.setRm x).tk = s.tk := rfl
@[simp] theorem setRm_pe : (s.setRm x).pe = s.pe := rfl
@[simp] theorem setRm_fc : (s.setRm x).fc = s.fc := rfl
@[simp] theorem setRm_ps : (s.setRm x).ps = s.ps := rfl
@[simp] theorem setRm_pending : (s.setRm x).pending = s.pending := rfl

end

section
variable (s : State) (x : MC)

@[simp] theorem setMc_sys : (s.setMc x).sys = s.sys := rfl
@[simp] theorem setMc_par : (s.setMc x).par = s.par := rfl
@[simp] theorem setMc_cp : (s.setMc x).cp = s.cp := rfl
@[simp] theorem setMc_dt : (s.setMc x).dt = s.dt := rfl
@[simp] theorem setMc_rm : (s.setMc x).rm = s.rm := rfl
@[simp] theorem setMc_mc : (s.setMc x).mc = x := rfl
@[simp] theorem setMc_pcu : (s.setMc x).pcu = s.pcu := rfl
@[simp] theorem setMc_pi : (s.setMc x).pi = s.pi := rfl
@[simp] theorem setMc_pg : (s.setMc x).pg = s.pg := rfl
@[simp] theorem setMc_tk : (s.setMc x).tk = s.tk := rfl
@[simp] theorem setMc_pe : (s.setMc x).pe = s.pe := rfl
@[simp] theorem setMc_fc : (s.setMc x).fc = s.fc := rfl
@[simp] theorem setMc_ps : (s.setMc x).ps = s.ps := rfl
@[simp] theorem setMc_pending : (s.setMc x).pending = s.pending := rfl

end

section
variable (s : State) (x : PCU)

@[simp] theorem setPcu_sys : (s.setPcu x).sys = s.sys := rfl
@[simp] theorem setPcu_par : (s.setPcu x).par = s.par := rfl
@[simp] theorem setPcu_cp : (s.setPcu x).cp = s.cp := rfl
@[simp] theorem setPcu_dt : (s.setPcu x).dt = s.dt := rfl
@[simp] theorem setPcu_rm : (s.setPcu x).rm = s.rm := rfl
@[simp] theorem setPcu_mc : (s.setPcu x).mc = s.mc := rfl
@[simp] theorem setPcu_pcu : (s.setPcu x).pcu = x := rfl
@[simp] theorem setPcu_pi : (s.setPcu x).pi = s.pi := rfl
@[simp] theorem setPcu_pg : (s.setPcu x).pg = s.pg := rfl
@[simp] theorem setPcu_tk : (s.setPcu x).tk = s.tk := rfl
@[simp] theorem setPcu_pe : (s.setPcu x).pe = s.pe := rfl
@[simp] theorem setPcu_fc : (s.setPcu x).fc = s.fc := rfl
@[simp] theorem setPcu_ps : (s.setPcu x).ps = s.ps := rfl
@[simp] theorem setPcu_pending : (s.setPcu x).pending = s.pending := rfl

end

section
variable (s : State) (x : PI)

@[simp] theorem setPi_sys : (s.setPi x).sys = s.sys := rfl
@[simp] theorem setPi_par : (s.setPi x).par = s.par := rfl
@[simp] theorem setPi_cp : (s.setPi x).cp = s.cp := rfl
@[simp] theorem setPi_dt : (s.setPi x).dt = s.dt := rfl
@[simp] theorem setPi_rm : (s.setPi x).rm = s.rm := rfl
@[simp] theorem setPi_mc : (s.setPi x).mc = s.mc := rfl
@[simp] theorem setPi_pcu : (s.setPi x).pcu = s.pcu := rfl
@[simp] theorem setPi_pi : (s.setPi x).pi = x := rfl
@[simp] theorem setPi_pg : (s.setPi x).pg = s.pg := rfl
@[simp] theorem setPi_tk : (s.setPi x).tk = s.tk := rfl
@[simp] theorem setPi_pe : (s.setPi x).pe = s.pe := rfl
@[simp] theorem setPi_fc : (s.setPi x).fc = s.fc := rfl
@[simp] theorem setPi_ps : (s.setPi x).ps = s.ps := rfl
@[simp] theorem setPi_pending : (s.setPi x).pending = s.pending := rfl

end

section
variable (s : State) (x : PG)

@[simp] theorem setPg_sys : (s.setPg x).sys = s.sys := rfl
@[simp] theorem setPg_par : (s.setPg x).par = s.par := rfl
@[simp] theorem setPg_cp : (s.setPg x).cp = s.cp := rfl
@[simp] theorem setPg_dt : (s.setPg x).dt = s.dt := rfl
@[simp] theorem setPg_rm : (s.setPg x).rm = s.rm := rfl
@[simp] theorem setPg_mc : (s.setPg x).mc = s.mc := rfl
@[simp] theorem setPg_pcu : (s.setPg x).pcu = s.pcu := rfl
@[simp] theorem setPg_pi : (s.setPg x).pi = s.pi := rfl
@[simp] theorem setPg_pg : (s.setPg x).pg = x := rfl
@[simp] theorem setPg_tk : (s.setPg x).tk = s.tk := rfl
@[simp] theorem setPg_pe : (s.setPg x).pe = s.pe := rfl
@[simp] theorem setPg_fc : (s.setPg x).fc = s.fc := rfl
@[simp] theorem setPg_ps : (s.setPg x).ps = s.ps := rfl
@[simp] theorem setPg_pending : (s.setPg x).pending = s.pending := rfl

end

section
variable (s : State) (x : TK)

@[simp] theorem setTk_sys : (s.setTk x).sys = s.sys := rfl
@[simp] theorem setTk_par : (s.setTk x).par = s.par := rfl
@[simp] theorem setTk_cp : (s.setTk x).cp = s.cp := rfl
@[simp] theorem setTk_dt : (s.setTk x).dt = s.dt := rfl
@[simp] theorem setTk_rm : (s.setTk x).rm = s.rm := rfl
@[simp] theorem setTk_mc : (s.setTk x).mc = s.mc := rfl
@[simp] theorem setTk_pcu : (s.setTk x).pcu = s.pcu := rfl
@[simp] theorem setTk_pi : (s.setTk x).pi = s.pi := rfl
@[simp] theorem setTk_pg : (s.setTk x).pg = s.pg := rfl
@[simp] theorem setTk_tk : (s.setTk x).tk = x := rfl
@[simp] theorem setTk_pe : (s.setTk x).pe = s.pe := rfl
@[simp] theorem setTk_fc : (s.setTk x).fc = s.fc := rfl
@[simp] theorem setTk_ps : (s.setTk x).ps = s.ps := rfl
@[simp] theorem setTk_pending : (s.setTk x).pending = s.pending := rfl

end

section
variable (s : State) (x : PE)

@[simp] theorem setPe_sys : (s.setPe x).sys = s.sys := rfl
@[simp] theorem setPe_par : (s.setPe x).par = s.par := rfl
@[simp] theorem setPe_cp : (s.setPe x).cp = s.cp := rfl
@[simp] theorem setPe_dt : (s.setPe x).dt = s.dt := rfl
@[simp] theorem setPe_rm : (s.setPe x).rm = s.rm := rfl
@[simp] theorem setPe_mc : (s.setPe x).mc = s.mc := rfl
@[simp] theorem setPe_pcu : (s.setPe x).pcu = s.pcu := rfl
@[simp] theorem setPe_pi : (s.setPe x).pi = s.pi := rfl
@[simp] theorem setPe_pg : (s.setPe x).pg = s.pg := rfl
@[simp] theorem setPe_tk : (s.setPe x).tk = s.tk := rfl
@[simp] theorem setPe_pe : (s.setPe x).pe = x := rfl
@[simp] theorem setPe_fc : (s.setPe x).fc = s.fc := rfl
@[simp] theorem setPe_ps : (s.setPe x).ps = s.ps := rfl
@[simp] theorem setPe_pending : (s.setPe x).pending = s.pending := rfl

end

section
variable (s : State) (x : FC)

@[simp] theorem setFc_sys : (s.setFc x).sys = s.sys := rfl
@[simp] theorem setFc_par : (s.setFc x).par = s.par := rfl
@[simp] theorem setFc_cp : (s.setFc x).cp = s.cp := rfl
@[simp] theorem setFc_dt : (s.setFc x).dt = s.dt := rfl
@[simp] theorem setFc_rm : (s.setFc x).rm = s.rm := rfl
@[simp] theorem setFc_mc : (s.setFc x).mc = s.mc := rfl
@[simp] theorem setFc_pcu : (s.setFc x).pcu = s.pcu := rfl
@[simp] theorem setFc_pi : (s.setFc x).pi = s.pi := rfl
@[simp] theorem setFc_pg : (s.setFc x).pg = s.pg := rfl
@[simp] theorem setFc_tk : (s.setFc x).tk = s.tk := rfl
@[simp] theorem setFc_pe : (s.setFc x).pe = s.pe := rfl
@[simp] theorem setFc_fc : (s.setFc x).fc = x := rfl
@[simp] theorem setFc_ps : (s.setFc x).ps = s.ps := rfl
@[simp] theorem setFc_pending : (s.setFc x).pending = s.pending := rfl

end

section
variable (s : State) (x : PS)

@[simp] theorem setPs_sys : (s.setPs x).sys = s.sys := rfl
@[simp] theorem setPs_par : (s.setPs x).par = s.par := rfl
@[simp] theorem setPs_cp : (s.setPs x).cp = s.cp := rfl
@[simp] theorem setPs_dt : (s.setPs x).dt = s.dt := rfl
@[simp] theorem setPs_rm : (s.setPs x).rm = s.rm := rfl
@[simp] theorem setPs_mc : (s.setPs x).mc = s.mc := rfl
@[simp] theorem setPs_pcu : (s.setPs x).pcu = s.pcu := rfl
@[simp] theorem setPs_pi : (s.setPs x).pi = s.pi := rfl
@[simp] theorem setPs_pg : (s.setPs x).pg = s.pg := rfl
@[simp] theorem setPs_tk : (s.setPs x).tk = s.tk := rfl
@[simp] theorem setPs_pe : (s.setPs x).pe = s.pe := rfl
@[simp] theorem setPs_fc : (s.setPs x).fc = s.fc := rfl
@[simp] theorem setPs_ps : (s.setPs x).ps = x := rfl
@[simp] theorem setPs_pending : (s.setPs x).pending = s.pending := rfl

end

section
variable (s : State) (x : List Instr)

@[simp] theorem setPending_sys : (s.setPending x).sys = s.sys := rfl
@[simp] theorem setPending_par : (s.setPending x).par = s.par := rfl
@[simp] theorem setPending_cp : (s.setPending x).cp = s.cp := rfl
@[simp] theorem setPending_dt : (s.setPending x).dt = s.dt := rfl
@[simp] theorem setPending_rm : (s.setPending x).rm = s.rm := rfl
@[simp] theorem setPending_mc : (s.setPending x).mc = s.mc := rfl
@[simp] theorem setPending_pcu : (s.setPending x).pcu = s.pcu := rfl
@[simp] theorem setPending_pi : (s.setPending x).pi = s.pi := rfl
@[simp] theorem setPending_pg : (s.setPending x).pg = s.pg := rfl
@[simp] theorem setPending_tk : (s.setPending x).tk = s.tk := rfl
@[simp] theorem setPending_pe : (s.setPending x).pe = s.pe := rfl
@[simp] theorem setPending_fc : (s.setPending x).fc = s.fc := rfl
@[simp] theorem setPending_ps : (s.setPending x).ps = s.ps := rfl
@[simp] theorem setPending_pending : (s.setPending x).pending = x := rfl

end

end Sys2Proof.Machine.State
end

