-- ==== Sys2Proof/Laws/Kept.lean ====
section
/-! SUPPORT. What the work of the Demand Table, the Resource Manager, the Mode Controller and the Fault Capture Unit inside an
event leaves alone: the supplies and lines, the values in use, the counters, the pressure channels, the store, the queue of
commands, the mask and the answer, the debouncers and stillness; and lockdown, once set, stays set. One lemma per shared
operation, up to the end of an event. -/
namespace Sys2Proof.Machine

/-- What the work inside an event leaves as it was. -/
structure Kept (s t : State) : Prop where
  sys : t.sys = s.sys
  par : t.par = s.par
  pcu : t.pcu = s.pcu
  pi : t.pi = s.pi
  ps : t.ps = s.ps
  pending : t.pending = s.pending
  mask : t.cp.mask = s.cp.mask
  resetKind : t.cp.resetKind = s.cp.resetKind
  answer : t.cp.answer = s.cp.answer
  deb : t.mc.deb = s.mc.deb
  inited : t.mc.inited = s.mc.inited
  sampleTimer : t.mc.sampleTimer = s.mc.sampleTimer
  still : t.mc.still = s.mc.still
  stillTimer : t.mc.stillTimer = s.mc.stillTimer
  stillOvertaken : t.mc.stillOvertaken = s.mc.stillOvertaken
  overEp : t.mc.overEp = s.mc.overEp
  overSpeed : t.mc.overSpeed = s.mc.overSpeed
  lockdown : s.fc.lockdown = true → t.fc.lockdown = true

namespace Kept

theorem refl (s : State) : Kept s s := by constructor <;> first | rfl | exact id

theorem trans {s t u : State} (h : Kept s t) (k : Kept t u) : Kept s u where
  sys := k.sys.trans h.sys
  par := k.par.trans h.par
  pcu := k.pcu.trans h.pcu
  pi := k.pi.trans h.pi
  ps := k.ps.trans h.ps
  pending := k.pending.trans h.pending
  mask := k.mask.trans h.mask
  resetKind := k.resetKind.trans h.resetKind
  answer := k.answer.trans h.answer
  deb := k.deb.trans h.deb
  inited := k.inited.trans h.inited
  sampleTimer := k.sampleTimer.trans h.sampleTimer
  still := k.still.trans h.still
  stillTimer := k.stillTimer.trans h.stillTimer
  stillOvertaken := k.stillOvertaken.trans h.stillOvertaken
  overEp := k.overEp.trans h.overEp
  overSpeed := k.overSpeed.trans h.overSpeed
  lockdown := fun x => k.lockdown (h.lockdown x)

end Kept

/-! ## Updates of one block -/

section
variable (s : State)

theorem setDt_kept (x : DT) : Kept s (s.setDt x) := by constructor <;> simp
theorem setRm_kept (x : RM) : Kept s (s.setRm x) := by constructor <;> simp
theorem setRes_kept (r : Res) (x : ResRec) : Kept s (s.setRes r x) := setRm_kept s _
theorem setPg_kept (x : PG) : Kept s (s.setPg x) := by constructor <;> simp
theorem setTk_kept (x : TK) : Kept s (s.setTk x) := by constructor <;> simp
theorem setPe_kept (x : PE) : Kept s (s.setPe x) := by constructor <;> simp
theorem setCp_kept (x : CP) (h : x.mask = s.cp.mask) (k : x.resetKind = s.cp.resetKind) (a : x.answer = s.cp.answer) :
    Kept s (s.setCp x) := by constructor <;> simp [h, k, a]
theorem setAttention_kept (f : AttSet) : Kept s (setAttention f s.cp.mask s) := by
  constructor <;> simp [setAttention]
theorem raiseAtt_kept (c : Att) : Kept s (raiseAtt c s) := setAttention_kept s _
theorem clearAtt_kept (c : AttSet) : Kept s (clearAtt c s) := setAttention_kept s _

/-! ## Governor, draws, valves -/

theorem foldl_kept {α : Type} (f : State → α → State) (h : ∀ s a, Kept s (f s a)) (l : List α) :
    ∀ s, Kept s (l.foldl f s) := by
  induction l with
  | nil => exact fun s => .refl s
  | cons a l ih => exact fun s => (h s a).trans (ih _)

theorem govOff_kept : Kept s (govOff s) := by
  unfold govOff; split
  · exact .refl s
  · exact setPg_kept s _

theorem govListLost_kept : Kept s (govListLost s) := by
  unfold govListLost; split
  · exact .refl s
  · exact setPg_kept s _

theorem govOverspeedStart_kept : Kept s (govOverspeedStart s) := setPg_kept s _
theorem govOverspeedEnd_kept : Kept s (govOverspeedEnd s) := setPg_kept s _
theorem driveValves_kept : Kept s (driveValves s) := setTk_kept s _
theorem recomputeDraws_kept : Kept s (recomputeDraws s) := (setTk_kept s _).trans (driveValves_kept _)

/-! ## Demand Table -/

theorem tellGovernor_kept (b : DT) : Kept s (tellGovernor b s) := by
  unfold tellGovernor; split
  · exact govListLost_kept s
  · exact .refl s

theorem storeTable_kept (t : DT) : Kept s (storeTable t s) := (setDt_kept s t).trans (tellGovernor_kept _ _)
theorem updateRecords_kept (f : Rec → Rec) : Kept s (updateRecords f s) := storeTable_kept s _
theorem setReason_kept (h : HoldReason) (on : Bool) (p : Rec → Bool) : Kept s (setReason h on p s) :=
  updateRecords_kept s _
theorem reportPumpPath_kept (b : Bool) : Kept s (reportPumpPath b s) :=
  (setReason_kept s _ _ _).trans (recomputeDraws_kept _)
theorem reportT0Empty_kept (b : Bool) : Kept s (reportT0Empty b s) :=
  (setReason_kept s _ _ _).trans (recomputeDraws_kept _)
theorem reportOverspeed_kept (b : Bool) : Kept s (reportOverspeed b s) := setReason_kept s _ _ _
theorem reportCut_kept (r : Res) (b : Bool) : Kept s (reportCut r b s) := setReason_kept s _ _ _
theorem reportCritical_kept (b : Bool) : Kept s (reportCritical b s) := setReason_kept s _ _ _
theorem reportShiftStart_kept (r : Res) : Kept s (reportShiftStart r s) := updateRecords_kept s _
theorem reportShiftDone_kept (r : Res) : Kept s (reportShiftDone r s) := updateRecords_kept s _
theorem forfeitRecords_kept (r : Res) (w : ForfeitReason) : Kept s (forfeitRecords r w s) := storeTable_kept s _

theorem evaluateSuspensions_kept : Kept s (evaluateSuspensions s) := by
  unfold evaluateSuspensions; dsimp only; split
  · exact .refl s
  · exact (setDt_kept s _).trans (recomputeDraws_kept _)

theorem storeMarked_kept (l : List Slot) : Kept s (storeMarked l s) := by
  unfold storeMarked; dsimp only; split
  · exact (setDt_kept s _).trans (raiseAtt_kept _ _)
  · exact setDt_kept s _

theorem markChanged_kept (b : List Slot) : Kept s (markChanged b s) := storeMarked_kept s _
theorem markAll_kept : Kept s (markAll s) := storeMarked_kept s _

/-! ## Resource Manager -/

theorem driftLapses_kept (r : Res) : Kept s (driftLapses r s) := by
  unfold driftLapses; split
  · exact setRes_kept s _ _
  · exact .refl s

theorem checkPumpPath_kept : Kept s (checkPumpPath s) := by
  unfold checkPumpPath; dsimp only; split
  · exact .refl s
  · have h : Kept s (driveValves (reportPumpPath s.rm.pathEngaged (s.setRm { s.rm with pumpPath := s.rm.pathEngaged }))) :=
      ((setRm_kept s _).trans (reportPumpPath_kept _ _)).trans (driveValves_kept _)
    split
    · exact h
    · exact h.trans (govOff_kept _)

theorem takeConfirm_kept (r : Res) : Kept s (takeConfirm r s) := by
  unfold takeConfirm; dsimp only; split
  · exact .refl s
  · split
    · exact (setRes_kept s _ _).trans (setRm_kept _ _)
    · exact setRes_kept s _ _

theorem trySettle_kept : Kept s (trySettle s) := by
  unfold trySettle; split
  · split
    · exact setRm_kept s _
    · exact .refl s
  · exact .refl s

theorem tryActuate_kept : Kept s (tryActuate s) := by
  unfold tryActuate; split
  · split
    · exact ((setRes_kept s _ _).trans (setRm_kept _ _)).trans (trySettle_kept _)
    · exact .refl s
  · exact .refl s

theorem splitTakesSlot_kept (r : Res) : Kept s (splitTakesSlot r s) := by
  unfold splitTakesSlot; split
  · constructor <;> simp
  · exact .refl s

theorem startHead_kept : Kept s (startHead s) := by
  have report (e : Entry) (t : State) : Kept t (if e.op = .engage then reportShiftStart e.res t else t) := by
    split
    · exact reportShiftStart_kept t e.res
    · exact .refl t
  unfold startHead; split
  · split
    · exact .refl s
    · exact ((((setRm_kept s _).trans (setRes_kept _ _ _)).trans (splitTakesSlot_kept _ _)).trans (report _ _)).trans
        (tryActuate_kept _)
  · exact .refl s

theorem appendEntry_kept (r : Res) (op : ShiftOp) : Kept s (appendEntry r op s) := by
  unfold appendEntry; split
  · exact .refl s
  · exact (setRm_kept s _).trans (startHead_kept _)

theorem withdraw_kept (r : Res) : Kept s (withdraw r s) := setRm_kept s _
theorem leaveSlot_kept (r : Res) : Kept s (leaveSlot r s) := (setRm_kept s _).trans (takeConfirm_kept _ r)

theorem reevaluate_kept (r : Res) : Kept s (reevaluate r s) := by
  unfold reevaluate; split
  · exact .refl s
  · split
    · exact appendEntry_kept s _ _
    · split
      · exact appendEntry_kept s _ _
      · exact .refl s

theorem cancelShift_kept (r : Res) : Kept s (cancelShift r s) :=
  (((leaveSlot_kept s r).trans (checkPumpPath_kept _)).trans (reevaluate_kept _ r)).trans (startHead_kept _)

theorem becameWanted_kept (r : Res) : Kept s (becameWanted r s) := by
  unfold becameWanted
  repeat' split
  all_goals first
    | exact withdraw_kept s _
    | exact cancelShift_kept s _
    | exact appendEntry_kept s _ _
    | exact .refl s

theorem stoppedWanted_kept (r : Res) : Kept s (stoppedWanted r s) := by
  unfold stoppedWanted
  repeat' split
  all_goals first
    | exact withdraw_kept s _
    | exact cancelShift_kept s _
    | exact appendEntry_kept s _ _
    | exact .refl s

theorem holdersMore_kept (r : Res) (n : Nat) : Kept s (holdersMore r n s) := by
  have adopt (t : State) : Kept t (if t.wanted r && (t.res r).orphan && (t.res r).cmd
      then t.setRes r { t.res r with orphan := false } else t) := by
    split
    · exact setRes_kept t _ _
    · exact .refl t
  unfold holdersMore; dsimp only; split
  · exact setRes_kept s _ _
  · split
    · exact ((setRes_kept s _ _).trans (becameWanted_kept _ r)).trans (adopt _)
    · exact (setRes_kept s _ _).trans (adopt _)

theorem holdersFewer_kept (r : Res) (n : Nat) : Kept s (holdersFewer r n s) := by
  unfold holdersFewer; dsimp only; split
  · exact setRes_kept s _ _
  · split
    · exact (setRes_kept s _ _).trans (stoppedWanted_kept _ r)
    · exact setRes_kept s _ _

theorem forfeitHolders_kept (r : Res) (w : ForfeitReason) : Kept s (forfeitHolders r w s) :=
  (forfeitRecords_kept s r w).trans (holdersFewer_kept _ _ _)

/-! ## Mode Controller and Fault Capture Unit -/

theorem setMode_kept (m : Mode) : Kept s (setMode m s) := by
  have h : Kept s (raiseAtt .modeChanged (s.setMc { s.mc with mode := m, parkhold := parkholdOf m, range := rangeOf m })) :=
    Kept.trans (by constructor <;> simp) (raiseAtt_kept _ _)
  unfold setMode; dsimp only; split
  · exact .refl s
  · split
    · exact h.trans (govOff_kept _)
    · exact h

theorem deriveMode_kept : Kept s (deriveMode s) := by
  unfold deriveMode; dsimp only
  exact Kept.trans (by constructor <;> simp) (setMode_kept _ _)

theorem evaluateScopes_kept : Kept s (evaluateScopes s) := by unfold evaluateScopes; constructor <;> simp

theorem abandonApply_kept (w : AbandonReason) (i : Option Nat) : Kept s (abandonApply w i s) := by
  unfold abandonApply; split
  · exact .refl s
  · exact ((setDt_kept s _).trans (setPe_kept _ _)).trans (raiseAtt_kept _ _)

theorem standardFault_kept (c : Cause) (r : Option Res) : Kept s (standardFault c r s) := by
  unfold standardFault; split
  · exact Kept.trans (by constructor <;> simp) (raiseAtt_kept _ _)
  · constructor <;> simp

theorem criticalResponse_kept : Kept s (criticalResponse s) :=
  ((govOff_kept s).trans (reportCritical_kept _ _)).trans (raiseAtt_kept _ _)

theorem fillCritical_kept (c : Cause) (r : Option Res) : Kept s (fillCritical c r s) :=
  Kept.trans (t := s.setFc { s.fc with critical := some (s.snapshot c r) }) (by constructor <;> simp)
    (criticalResponse_kept _)

theorem tableLockdown_kept : Kept s (tableLockdown s) :=
  ((storeTable_kept s _).trans (foldl_kept _ (fun t r => holdersFewer_kept t r _) _ _)).trans (recomputeDraws_kept _)

theorem resourcesLockdown_kept : Kept s (resourcesLockdown s) := by
  unfold resourcesLockdown; dsimp only
  refine Kept.trans ?_ (foldl_kept _ (fun t r => driftLapses_kept t r) _ _)
  split
  · exact (((setRm_kept s _).trans (leaveSlot_kept _ _)).trans (checkPumpPath_kept _)).trans (setRm_kept _ _)
  · exact (setRm_kept s _).trans (setRm_kept _ _)

theorem enterLockdown_kept (c : Cause) (r : Option Res) : Kept s (enterLockdown c r s) :=
  (((((((Kept.trans (t := s.setFc { s.fc with lockdown := true, lockdownCap := some (s.snapshot c r) })
    (by constructor <;> simp) (govOff_kept _)).trans (abandonApply_kept _ _ _)).trans (tableLockdown_kept _)).trans
    (resourcesLockdown_kept _)).trans (driveValves_kept _)).trans (deriveMode_kept _)).trans
    (evaluateScopes_kept _)).trans (raiseAtt_kept _ _)

theorem criticalFault_kept (c : Cause) (r : Option Res) : Kept s (criticalFault c r s) := by
  unfold criticalFault
  repeat' split
  · exact .refl s
  · exact enterLockdown_kept s c r
  · exact fillCritical_kept s c r

/-! ## The end of an event -/

theorem motionWatch_kept : Kept s (motionWatch s) := by
  unfold motionWatch
  repeat' split
  all_goals first
    | exact .refl s
    | exact Kept.trans (t := s.setMc { s.mc with motionEp := true }) (by constructor <;> simp) (criticalFault_kept _ _ _)
    | (constructor <;> simp)

theorem parkWatch_kept : Kept s (parkWatch s) := by
  unfold parkWatch
  repeat' split
  all_goals first
    | exact .refl s
    | exact Kept.trans (t := s.setMc { s.mc with parkEp := true }) (by constructor <;> simp) (criticalFault_kept _ _ _)
    | (constructor <;> simp)

theorem evaluatePumping_kept : Kept s (evaluatePumping s) := by
  unfold evaluatePumping; dsimp only; split
  · exact ((evaluateScopes_kept s).trans (motionWatch_kept _)).trans (parkWatch_kept _)
  · exact (evaluateScopes_kept s).trans (parkWatch_kept _)

theorem graceAtMode_kept (m : Mode) : Kept s (graceAtMode m s) := by
  unfold graceAtMode
  repeat' split
  all_goals first
    | exact .refl s
    | (constructor <;> simp)

theorem deriveAndWatch_kept : Kept s (deriveAndWatch s) :=
  ((deriveMode_kept s).trans (evaluatePumping_kept _)).trans (graceAtMode_kept _ _)

theorem splitWatch_kept : Kept s (splitWatch s) := by
  unfold splitWatch
  repeat' split
  all_goals first
    | exact .refl s
    | (constructor <;> simp)

theorem driftWatch_kept (r : Res) : Kept s (driftWatch r s) := by
  unfold driftWatch; split
  · exact setRes_kept s _ _
  · exact driftLapses_kept s r

theorem positionWatches_kept : Kept s (positionWatches s) :=
  (splitWatch_kept s).trans (foldl_kept _ (fun t r => driftWatch_kept t r) _ _)

theorem completeResync_kept (b : List Slot) : Kept s (completeResync b s) := by
  unfold completeResync
  refine Kept.trans ?_ (startHead_kept _)
  refine Kept.trans ?_ (setRm_kept _ _)
  refine Kept.trans ?_ (raiseAtt_kept _ _)
  refine Kept.trans ?_ (setCp_kept _ _ rfl rfl rfl)
  refine Kept.trans ?_ (markAll_kept _)
  refine Kept.trans ?_ (clearAtt_kept _ _)
  exact (markChanged_kept s b).trans (by constructor <;> simp)

theorem settleResync_kept (b : List Slot) : Kept s (settleResync b s) := by
  unfold settleResync; split
  · exact completeResync_kept s b
  · exact .refl s

theorem followUp_kept (s0 : State) (b : List Slot) : Kept s (followUp s0 b s) := by
  have sus (t : State) : Kept t (if (t.res .ptoa).conf = (s0.res .ptoa).conf then t else evaluateSuspensions t) := by
    split
    · exact .refl t
    · exact evaluateSuspensions_kept t
  have last (t : State) : Kept t (if t.mc.derived then deriveAndWatch t else t) := by
    split
    · exact deriveAndWatch_kept t
    · exact .refl t
  exact ((settleResync_kept s b).trans (sus _)).trans (last _)

/-- The end of an event leaves alone what the work inside it leaves alone. -/
theorem endEvent_kept (s0 : State) (b : List Slot) : Kept s (endEvent s0 b s) :=
  (((followUp_kept s s0 b).trans (positionWatches_kept _)).trans (settleResync_kept _ b)).trans (markChanged_kept _ b)

theorem finish_kept (s0 : State) : Kept s (finish s0 s) := endEvent_kept s s0 _

end

end Sys2Proof.Machine
end

