-- ==== Sys2Proof/Laws/Events.lean ====
section
/-! SUPPORT. What the end of an event does where it finds nothing to do, what marking does where no record differs, how a
request is taken, and that a completed write drives no floor in ROLL: the equations the statements are proved from. -/
namespace Sys2Proof.Machine

/-! ## The governor and the roll floor (log 24) -/

/-- The loss of the last ACTIVE record leaves the governor OFF or in IDLE_HOLD (R79, R121). -/
theorem govListLost_state (s : State) : (govListLost s).pg.state = .off ∨ (govListLost s).pg.state = .idleHold := by
  unfold govListLost
  split
  · exact .inl ‹_›
  · exact .inr rfl

/-- In ROLL a completed write beside a governor that is OFF or in IDLE_HOLD drives no floor (R79, R129, R130): a new roll floor
maximum is next the cap of a driven floor at a governor update (R76). -/
theorem govNewValues_drives_no_floor {s : State} (hm : s.mc.mode = .roll) (hg : s.pg.state = .off ∨ s.pg.state = .idleHold) :
    (govNewValues s).pg.thrMode = .off := by
  obtain h | h := hg <;> simp [govNewValues, PG.withCeiling, thrModeOf, h, hm]

/-! ## Changed flags -/

theorem slotChanged_self (x : Slot) : slotChanged x x = false := by
  unfold slotChanged
  cases x.record <;> simp

theorem markSlots_self (l : List Slot) : markSlots l l = l := by
  induction l with
  | nil => rfl
  | cons x l ih => simp [markSlots, slotChanged_self, ih]

theorem anyRaised_self (l : List Slot) : anyRaised l l = false := by
  induction l with
  | nil => rfl
  | cons x l ih =>
    cases h : x.record <;> simp [anyRaised, h, ih]

theorem storeMarked_self (s : State) : storeMarked s.dt.slots s = s := by
  unfold storeMarked
  simp only [anyRaised_self]
  rfl

/-- An event that ends with the records it is measured from marks nothing. -/
theorem markChanged_self (s : State) : markChanged s.dt.slots s = s := by
  unfold markChanged
  rw [markSlots_self]
  exact storeMarked_self s

/-! ## The end of an event in a state at rest -/

theorem setMode_self (s : State) : setMode s.mc.mode s = s := by simp [setMode]

theorem deriveMode_settled {s : State} (hd : s.mc.derived = true) (h : s.mc.mode = s.modeOf) : deriveMode s = s := by
  have e : s.setMc { s.mc with derived := true } = s := by
    have : ({ s.mc with derived := true } : MC) = s.mc := by
      cases hm : s.mc; simp_all
    rw [this]; rfl
  unfold deriveMode
  dsimp only
  rw [e, ← h]
  exact setMode_self s

theorem evaluateScopes_settled {s : State} (h : s.mc.sp = s.stationary) (p : s.mc.parkEp = true → s.mc.sp = true)
    (m : s.mc.motionEp = true → s.mc.sp = true) (g : s.mc.graceTimer.isSome = true → s.rolling = true) :
    evaluateScopes s = s := by
  have e : ({ s.mc with
      sp := s.stationary, motionEp := s.mc.motionEp && s.stationary, parkEp := s.mc.parkEp && s.stationary,
      graceTimer := if s.rolling then s.mc.graceTimer else none } : MC) = s.mc := by
    rw [← h]
    have hp : (s.mc.parkEp && s.mc.sp) = s.mc.parkEp := by
      cases hx : s.mc.parkEp <;> simp_all
    have hm : (s.mc.motionEp && s.mc.sp) = s.mc.motionEp := by
      cases hx : s.mc.motionEp <;> simp_all
    have hg : (if s.rolling then s.mc.graceTimer else none) = s.mc.graceTimer := by
      cases hx : s.mc.graceTimer <;> simp_all
    rw [hp, hm, hg]
  unfold evaluateScopes
  dsimp only
  rw [e]
  rfl

theorem parkWatch_settled {s : State} (p : s.mc.parkEp = (s.mc.sp && !s.mc.accepted.park)) : parkWatch s = s := by
  unfold parkWatch
  rw [← p]
  split
  · rfl
  · rename_i hx
    have hp : s.mc.parkEp = false := by simpa using hx
    have e : ({ s.mc with parkEp := false } : MC) = s.mc := by rw [← hp]
    rw [e]; rfl

/-- R72: where the motion episode stands as the road ring sum and the tolerance in use give it, one evaluation more changes
nothing; so log 49's two readings agree there. -/
theorem motionWatch_settled {s : State}
    (m : s.mc.sp = true → s.mc.motionEp = decide (s.par.motionTolerance < s.pcu.roadSum)) : motionWatch s = s := by
  unfold motionWatch
  split
  · rfl
  · rename_i hsp
    have hm := m (by simpa using hsp)
    split
    · rename_i hx
      simp [hm, hx]
    · rename_i hx
      have e : ({ s.mc with motionEp := false } : MC) = s.mc := by
        rw [show false = s.mc.motionEp by simp [hm, hx]]
      rw [e]; rfl

theorem evaluatePumping_settled {s : State} (h : s.mc.sp = s.stationary)
    (p : s.mc.parkEp = (s.mc.sp && !s.mc.accepted.park)) (m : s.mc.motionEp = true → s.mc.sp = true)
    (g : s.mc.graceTimer.isSome = true → s.rolling = true) : evaluatePumping s = s := by
  have e : evaluateScopes s = s := by
    refine evaluateScopes_settled h ?_ m g
    intro hp
    rw [p] at hp
    simp_all
  unfold evaluatePumping
  simp only [e, ← h]
  simp [parkWatch_settled p]

theorem graceAtMode_self (s : State) : graceAtMode s.mc.mode s = s := by simp [graceAtMode]

theorem splitWatch_settled {s : State} (h : SplitWatchSettled s) : splitWatch s = s := by
  unfold splitWatch
  split
  · rfl
  · rename_i hd
    have h' := h (by simpa using hd)
    split
    · rename_i hc
      rw [if_pos hc] at h'
      split
      · rename_i hx
        simp at hx
        rcases h' with h' | h' <;> simp_all
      · rfl
    · rename_i hc
      rw [if_neg hc] at h'
      have e : ({ s.mc with splitTimer := none, splitReported := false } : MC) = s.mc := by
        cases hm : s.mc; simp_all
      rw [e]; rfl

theorem setRes_self (s : State) (r : Res) : s.setRes r (s.res r) = s := by cases r <;> rfl

theorem driftLapses_settled {s : State} (h : DriftWatchesSettled s) (r : Res) : driftLapses r s = s := by
  unfold driftLapses
  split
  · rename_i hx
    simp only [Bool.and_eq_true, Bool.not_eq_true'] at hx
    have h' := h hx.1 r (by cases r <;> simp [allRes])
    rw [if_neg (by simp [hx.2])] at h'
    have e : ({ s.res r with driftTimer := none, driftArmed := true } : ResRec) = s.res r := by
      cases hm : s.res r; simp_all
    rw [e]
    exact setRes_self s r
  · rfl

theorem driftWatch_settled {s : State} (h : DriftWatchesSettled s) (r : Res) : driftWatch r s = s := by
  unfold driftWatch
  split
  · rename_i hx
    simp only [Bool.and_eq_true] at hx
    have h' := h hx.1.1.1 r (by cases r <;> simp [allRes])
    rw [if_pos hx.1.1.2] at h'
    rcases h' with h' | h' <;> simp_all
  · exact driftLapses_settled h r

theorem positionWatches_settled {s : State} (h : SplitWatchSettled s) (d : DriftWatchesSettled s) :
    positionWatches s = s := by
  unfold positionWatches
  rw [splitWatch_settled h]
  simp [allRes, driftWatch_settled d]

theorem settleResync_settled {s : State} (b : List Slot) (h : s.cp.resync = true → s.rm.shift.isSome = true) :
    settleResync b s = s := by
  unfold settleResync
  split
  · rename_i hc
    simp at hc
    have := h hc.1
    simp_all
  · rfl

/-- In a state at rest in which PTOA's confirmed position is what it was when the event began, the end of the event marks the
changed records and does nothing else. -/
theorem endEvent_atRest {s0 s : State} (b : List Slot) (h : AtRest s)
    (ha : (s.res .ptoa).conf = (s0.res .ptoa).conf) : endEvent s0 b s = markChanged b s := by
  obtain ⟨hp, hs, hd, hr⟩ := h
  have hf : followUp s0 b s = s := by
    unfold followUp
    simp only [settleResync_settled b hr, ha, if_true]
    split
    · rename_i hx
      obtain ⟨m1, m2, m3, m4, m5⟩ := hp hx
      unfold deriveAndWatch
      rw [deriveMode_settled hx m1, evaluatePumping_settled m2 m3 m4 m5]
      exact graceAtMode_self s
    · rfl
  unfold endEvent
  rw [hf, positionWatches_settled hs hd, settleResync_settled b hr]

/-! ## Requests -/

theorem takeRequest_serving {s : State} (h : Serving s) (code : Byte) (d : Bool) (f : State → State × Reply) :
    takeRequest code d f s = putAnswer code (f (endTransaction s)).2 (f (endTransaction s)).1 := by
  obtain ⟨h1, h2, h3⟩ := h
  simp [takeRequest, h1, h2, endTransaction, h3]

theorem takeRead_serving {s : State} (h : Serving s) (code : Byte) (d : Bool) (f : State → Reply) :
    takeRead code d f s = answered code (f (endTransaction s)).result (f (endTransaction s)).body s := by
  unfold takeRead
  rw [takeRequest_serving h]
  rfl

/-- A reset takes no request (R179). -/
theorem takeRequest_reset {s : State} (h : s.sys.resetActive = true) (code : Byte) (d : Bool) (f : State → State × Reply) :
    takeRequest code d f s = s := by simp [takeRequest, h]

/-- A transaction that RESYNC's completion aborted executes nothing (R184). -/
theorem takeRequest_aborted {s : State} (h : s.sys.resetActive = false) (a : s.cp.txn = .aborted) (code : Byte) (d : Bool)
    (f : State → State × Reply) : takeRequest code d f s = endTransaction s := by simp [takeRequest, h, a]

/-- A request during a RESYNC is answered BUSY and changes nothing else (R175). -/
theorem takeRequest_busy {s : State} (h : s.sys.resetActive = false) (a : s.cp.txn ≠ .aborted) (r : s.cp.resync = true)
    (code : Byte) (f : State → State × Reply) :
    takeRequest code false f s = answered code .busy .empty s := by
  simp [takeRequest, h, a, endTransaction, r, putAnswer, Reply.of, answered, State.setCp]

/-! ## Lockdown stops the shared operations -/

theorem startHead_lockdown {s : State} (h : s.fc.lockdown = true) : startHead s = s := by
  unfold startHead
  split <;> simp [h]

theorem appendEntry_lockdown {s : State} (h : s.fc.lockdown = true) (r : Res) (op : ShiftOp) : appendEntry r op s = s := by
  simp [appendEntry, h]

theorem reevaluate_lockdown {s : State} (h : s.fc.lockdown = true) (r : Res) : reevaluate r s = s := by
  simp [reevaluate, h]

theorem criticalFault_lockdown {s : State} (h : s.fc.lockdown = true) (c : Cause) (r : Option Res) :
    criticalFault c r s = s := by simp [criticalFault, h]

theorem govOff_off {s : State} (h : s.pg.state = .off) : govOff s = s := by simp [govOff, h]

end Sys2Proof.Machine
end

