-- ==== Sys2Proof/Laws/Frames.lean ====
section
/-! SUPPORT. What the bits of a transaction give: the bytes they were clocked from, whatever part byte follows (R173). -/
namespace Sys2Proof

theorem byte_of_its_bits : ∀ b : Byte, BitVec.ofNat 8 (numberOfBits [b.getLsbD 7, b.getLsbD 6, b.getLsbD 5, b.getLsbD 4,
    b.getLsbD 3, b.getLsbD 2, b.getLsbD 1, b.getLsbD 0]) = b := by decide +kernel

theorem bytesOfBits_part : ∀ part : List Bool, part.length < 8 → bytesOfBits part = []
  | [], _ | [_], _ | [_, _], _ | [_, _, _], _ | [_, _, _, _], _ | [_, _, _, _, _], _ | [_, _, _, _, _, _], _
  | [_, _, _, _, _, _, _], _ => rfl
  | _ :: _ :: _ :: _ :: _ :: _ :: _ :: _ :: _, h => by simp at h; omega

/-- R173: bytes clocked most significant bit first are received as they are, and a part byte after them is dropped. -/
theorem bytesOfBits_bitsOfBytes (bytes : List Byte) (part : List Bool) (h : part.length < 8) :
    bytesOfBits (bitsOfBytes bytes ++ part) = bytes := by
  induction bytes with
  | nil => exact bytesOfBits_part part h
  | cons b bytes ih =>
    have step : bitsOfBytes (b :: bytes) ++ part = [b.getLsbD 7, b.getLsbD 6, b.getLsbD 5, b.getLsbD 4, b.getLsbD 3,
        b.getLsbD 2, b.getLsbD 1, b.getLsbD 0] ++ (bitsOfBytes bytes ++ part) := by simp [bitsOfBytes]
    rw [step]
    change BitVec.ofNat 8 _ :: bytesOfBits (bitsOfBytes bytes ++ part) = _
    rw [byte_of_its_bits, ih]

end Sys2Proof
end

