-- ==== Sys2Proof/Laws/Templates.lean ====
section
/-! SUPPORT. A template's check is apart from its other contents (R151): computing it changes neither them nor the fields read from
them, and leaves the template good. -/
namespace Sys2Proof.Machine
open Sys2Proof.Config

theorem extract_high (hi lo : Byte) : (hi ++ lo : Word).extractLsb' 8 8 = hi := by
  rw [BitVec.extractLsb'_append_eq_left]

theorem extract_low (hi lo : Byte) : (hi ++ lo : Word).extractLsb' 0 8 = lo := by
  rw [BitVec.extractLsb'_append_eq_right]

/-- Bytes in pairs survive being held as words. -/
theorem bytesOf_wordsFrom : ∀ bytes : List Byte, bytes.length % 2 = 0 → bytesOf (wordsFrom bytes) = bytes
  | [], _ => rfl
  | [_], h => by simp at h
  | hi :: lo :: rest, h => by
    have ih := bytesOf_wordsFrom rest (by simp only [List.length_cons] at h; omega)
    simp only [bytesOf] at ih
    simp [bytesOf, wordsFrom, extract_high, extract_low, ih]

theorem bytesOf_length (ws : List Word) : (bytesOf ws).length = 2 * ws.length := by
  simp [bytesOf, List.length_flatMap, Nat.mul_comm]

theorem bytesOf_withTemplateCheck (ws : List Word) :
    bytesOf (withTemplateCheck ws) =
      (templateContents ws).set templateCheckByte.val (-((templateContents ws).foldl (· + ·) 0)) := by
  rw [withTemplateCheck, bytesOf_wordsFrom]
  simp [templateContents, bytesOf_length]

/-- R151: the check leaves a template's other contents as they were. -/
@[simp] theorem templateContents_withTemplateCheck (ws : List Word) :
    templateContents (withTemplateCheck ws) = templateContents ws := by
  rw [templateContents, bytesOf_withTemplateCheck, List.set_set]
  simp [templateContents]

/-- R151, R188: the fields read from a stored template are those that were checked as staged. -/
@[simp] theorem templateRead_withTemplateCheck (ws : List Word) : templateRead (withTemplateCheck ws) = templateRead ws := by
  simp [templateRead]

@[simp] theorem templateUnfilled_withTemplateCheck (ws : List Word) :
    templateUnfilled (withTemplateCheck ws) = templateUnfilled ws := by
  simp [templateUnfilled]

/-- R188: the field checks of a stored template find what they found as it was staged. -/
theorem templateFailures_withTemplateCheck (lim : Limits) (ws : List Word) :
    templateFailures lim (withTemplateCheck ws) = templateFailures lim ws := by
  simp [templateFailures]

end Sys2Proof.Machine
end

