-- ==== Sys2Proof/WellFormed.lean ====
section
/-! DEFINITION. Which commands the outside world can send: the widths of the frame's fields (R176) and the ranges of
the sensor events. A well-formed command may still be refused by its own checks (a station of 0, a slot over 23). -/
namespace Sys2Proof

/-- A slot and a generation each fit a byte. -/
def Descriptor.wellFormed (d : Descriptor) : Bool := d.slot < 256 && d.gen < 256

/-- The fields of a demand body fit the widths of a frame's numbers. -/
def DemandBody.wellFormed : DemandBody → Bool
  | .pumpStat _ sp => sp < 65536
  | .pumpRoll _ sp => sp < 65536
  | .aux _ => true
  | .discharge o _ f foam =>
      o < 256 && f < 65536 && (match foam with
        | none => true
        | some p => p.tank < 256 && p.ratio < 256)
  | .malformed => true

/-- An optional byte-wide number. -/
def byteField (n : Option Nat) : Bool :=
  match n with
  | none => true
  | some k => k < 256

/-- An optional descriptor. -/
def descField (d : Option Descriptor) : Bool :=
  match d with
  | none => true
  | some x => x.wellFormed

/-- The commands the outside world can send: a station is three bits (R176), a raw conversion lies from 0 to 4095
(R113), a lease timer belongs to one of the 24 slots (R1). -/
def Instr.wellFormed : Instr → Bool
  | .transactionStart => true
  | .transactionEnd _ => true
  | .nop => true
  | .openDemand st b => st < 8 && b.wellFormed
  | .amend b => match b with
      | none => true
      | some x => x.desc.wellFormed && x.station < 256 && x.body.wellFormed
  | .retire d => descField d
  | .retireStation st => st < 8
  | .query _ d => descField d
  | .find st _ _ => st < 8
  | .renew st d => st < 8 && descField d
  | .readResources => true
  | .readMode => true
  | .readSpeeds => true
  | .readGovernor => true
  | .readTank t => byteField t
  | .applyPreset st p => st < 8 && byteField p
  | .readPresetResult => true
  | .status => true
  | .ack _ => true
  | .readFault => true
  | .ackFault _ => true
  | .resync => true
  | .profileRead g => byteField g
  | .profileWrite p => match p with
      | none => true
      | some x => x.group < 256 && x.offset < 256 && x.words.length ≤ 29
  | .profileErase => true
  | .profileLock => true
  | .profileUnlock => true
  | .coldReset => true
  | .warmReset _ => true
  | .resetEnd => true
  | .inputSample _ => true
  | .stillnessExpiry => true
  | .splitWatchExpiry => true
  | .pulseArrival _ => true
  | .engineStopExpiry => true
  | .speedWindow => true
  | .graceExpiry => true
  | .slipExpiry => true
  | .rearmExpiry => true
  | .levelSample _ _ _ _ _ => true
  | .pressureConversion p q => p ≤ 4095 && q ≤ 4095
  | .governorUpdate => true
  | .tankUpdate => true
  | .prepTimeout => true
  | .confirmExpiry => true
  | .settleExpiry => true
  | .driftExpiry _ => true
  | .adoptionWindowExpiry => true
  | .leaseExpiry sl => sl < 24
  | .templateReadCompletion => true
  | .profileWriteCompletion => true
  | .profileEraseCompletion => true
  | .validationCompletion => true
  | .driveOutputsFollowLines _ => true

end Sys2Proof
end

