-- ==== Sys2Proof/Tests/Slice0.lean ====
section
/-! SUPPORT. Tests: ill-formed commands that the checks refuse, the manual's worked examples, one small step per command where
the manual gives a result, and for every obligation with hypotheses a state and operands that meet them. -/
namespace Sys2Proof.Tests
open Sys2Proof Sys2Proof.Machine

/-! ## Ill-formed commands -/

theorem test_wf_station : (Instr.openDemand 8 .malformed).wellFormed = false := by decide
theorem test_wf_setpoint : (Instr.openDemand 1 (.pumpStat none 65536)).wellFormed = false := by decide
theorem test_wf_roll_setpoint : (Instr.openDemand 1 (.pumpRoll none 65536)).wellFormed = false := by decide
theorem test_wf_outlet : (Instr.openDemand 1 (.discharge 256 none 0 none)).wellFormed = false := by decide
theorem test_wf_flow : (Instr.openDemand 1 (.discharge 0 none 65536 none)).wellFormed = false := by decide
theorem test_wf_foam_tank : (Instr.openDemand 1 (.discharge 0 none 0 (some ⟨256, 1⟩))).wellFormed = false := by decide
theorem test_wf_foam_ratio : (Instr.openDemand 1 (.discharge 0 none 0 (some ⟨1, 256⟩))).wellFormed = false := by decide
theorem test_wf_slot : (Instr.retire (some ⟨256, 0⟩)).wellFormed = false := by decide
theorem test_wf_gen : (Instr.query true (some ⟨0, 256⟩)).wellFormed = false := by decide
theorem test_wf_amend_desc : (Instr.amend (some ⟨⟨256, 0⟩, 1, .aux none⟩)).wellFormed = false := by decide
theorem test_wf_amend_station : (Instr.amend (some ⟨⟨0, 0⟩, 256, .aux none⟩)).wellFormed = false := by decide
theorem test_wf_retire_station : (Instr.retireStation 8).wellFormed = false := by decide
theorem test_wf_find_station : (Instr.find 8 false none).wellFormed = false := by decide
theorem test_wf_renew_station : (Instr.renew 8 none).wellFormed = false := by decide
theorem test_wf_tank : (Instr.readTank (some 256)).wellFormed = false := by decide
theorem test_wf_preset : (Instr.applyPreset 1 (some 256)).wellFormed = false := by decide
theorem test_wf_preset_station : (Instr.applyPreset 8 none).wellFormed = false := by decide
theorem test_wf_group : (Instr.profileRead (some 256)).wellFormed = false := by decide
theorem test_wf_piece_group : (Instr.profileWrite (some ⟨256, 0, [0]⟩)).wellFormed = false := by decide
theorem test_wf_piece_offset : (Instr.profileWrite (some ⟨0, 256, [0]⟩)).wellFormed = false := by decide
theorem test_wf_piece_words : (Instr.profileWrite (some ⟨0, 0, List.replicate 30 0⟩)).wellFormed = false := by decide
theorem test_wf_conversion : (Instr.pressureConversion 4096 0).wellFormed = false := by decide
theorem test_wf_conversion_intake : (Instr.pressureConversion 0 4096).wellFormed = false := by decide
theorem test_wf_lease_slot : (Instr.leaseExpiry 24).wellFormed = false := by decide
theorem test_wf_accepts : (Instr.openDemand 7 (.pumpStat (some .pressure) 65535)).wellFormed = true := by decide

/-! ## States -/

/-- The parameters with the default of PTOB: road-permitted and retained. -/
def defaults : Params := { invalidParams with roadPermittedB := true, retainB := true }

/-- Parked in neutral, split shaft at ROAD. -/
def parked : Inputs := ⟨true, true, false, true, false, false, false, false⟩

/-- A working part at rest: the profile VALID, the vehicle parked and still in ROAD mode, the table empty. -/
def work : State := { State.reset with
  par := defaults
  ps := { PS.delivered with validity := .valid, conds := List.replicate 12 .good, validated := true }
  mc := { State.reset.mc with
    inited := true, derived := true, still := true, stillTimer := none, mode := .road, parkhold := false, range := .free
    deb := initDebouncers parked }
  rm := { State.reset.rm with split := { State.reset.rm.split with conf := .disengaged } }
  pg := { PG.reset defaults with updateTimer := some 100 } }

/-- The state with a record of station 2 in a slot, its generation 3. -/
def State.holding (i : Nat) (r : Rec) (s : State) : State := s.setDt (s.dt.setSlot i ⟨3, .occupied r⟩)

/-- A record of station 2 without reasons. -/
def served (d : Demand) (x : RecState) : Rec := ⟨d, 2, x, Reasons.none, ⟨0, false, false⟩, false⟩

/-- A PUMP_ROLL record of station 2 whose lease runs. -/
def rolls (x : RecState) : Rec := { served (.pumpRoll .speed 900) x with lease := ⟨0, true, false⟩ }

/-- Pumping from a standstill: SPLIT engaged and confirmed, mode PUMP. -/
def pumping : State := { work with
  mc := { work.mc with
    mode := .pump, parkhold := true, range := .pumpOnly, sp := true
    deb := initDebouncers ⟨true, true, true, false, true, false, false, false⟩ }
  rm := { work.rm with
    split := { work.rm.split with cmd := true, conf := .engaged, holders := 1 }, pumpPath := true } }

/-- Pumping with a PUMP_STAT record being served by the governor. -/
def governed : State := { State.holding 0 (served (.pumpStat .pressure 1000) .active) pumping with
  dt := ⟨(State.holding 0 (served (.pumpStat .pressure 1000) .active) pumping).dt.slots, [⟨0, 3⟩]⟩
  pg := { pumping.pg with state := .pressure, governing := some ⟨0, 3⟩, demand := 1000 }
  pi := { pumping.pi with
    pdis := ⟨.valid, [1464], 0, 0, some 1000⟩, pint := ⟨.valid, [600], 0, 0, some 46⟩ } }

/-- The state with this capture in the critical slot. -/
def State.faulted (s : State) : State := s.setFc { s.fc with critical := some (s.snapshot .pathBoth none) }

/-- The state in lockdown with an empty table and queue. -/
def State.locked (s : State) : State := (State.faulted s).setFc { (State.faulted s).fc with lockdown := true }

/-- The state with this shift in flight. -/
def State.shifting (sh : Shift) (s : State) : State := s.setRm { s.rm with shift := some sh }

/-- The state with this resource's record changed. -/
def State.onRes (r : Res) (f : ResRec → ResRec) (s : State) : State := s.setRes r (f (s.res r))

/-- A present T0 with the strapping table of R137's example and a filtered volume. -/
def tankT0 (v : Nat) (last : Option VolState) : Tank :=
  ⟨true, none, none, some v, 2850, none, .vol .normal, last, false,
    some ⟨112, 15, 1500, [(0, 0), (200, 900), (900, 6200), (1400, 9800), (1500, 10400)], 300, 2000, 4000, 150⟩, .referenced⟩

/-- A configured REFERENCED level channel at a count, its last phase all clear. -/
def channelAt (n : Nat) : LevelChan :=
  { LevelChan.reset with
    configured := true, count := n, state := .referenced, refCount := 5000, phase := some ⟨false, false, false⟩ }

/-- The working part with T0 present and its channel at a count. -/
def watered (n v : Nat) : State := { work with
  tk := { work.tk with t0 := tankT0 v (some .normal) }, pcu := { work.pcu with l0 := channelAt n } }

/-- A field of the state that a command leads to. -/
def after {α : Type} (c : Instr) (s : State) (f : State → α) : α := f (stateOf s (exec c s))

/-! ## The manual's examples -/

/-- R177: STATUS with station 0, clear flag clear and no body has the CRC-8 0x68. -/
theorem test_crc_of_status : crc8 [0x20, 0x00, 0x00] = 0x68 := by decide +kernel

/-- R137: 1080 mm, 1500 mm and 66 mm of the example table. -/
theorem test_strapping_table :
    [1080, 1500, 66].map (fun l => volumeOf l [(0, 0), (200, 900), (900, 6200), (1400, 9800), (1500, 10400)])
      = [7496, 10400, 297] := by decide

/-- 7.8 update A: a count of 7312 moves the filtered volume from 7600 L to 7548 L; R136, R137: 1080 mm and 7496 L. -/
theorem test_tank_update :
    after .tankUpdate (watered 7312 7600) (fun t => (t.tk.t0.level, t.tk.t0.raw, t.tk.t0.filtered))
      = (some 1080, some 7496, some 7548) := by decide +kernel

/-- R139: from EMPTY with H 150, 420 L stays EMPTY and 454 L becomes RESERVE. -/
theorem test_volume_hysteresis :
    [420, 454].map (fun v => nextVolume ⟨0, 0, 0, [], 300, 2000, 4000, 150⟩ v (some .empty)) = [.empty, .reserve] := by decide

/-- R96: 200 rpm, 22.5 km/h, and a pump speed over its clamp. -/
theorem test_speed_formulas : (rpmOf 120 160, roadSpeedOf 8000 40, rpmOf 4 170) = (200, 225, 6000) := by decide

/-- R114: PDIS 1000 kPa and PINT 46 kPa. -/
theorem test_pressure_scaling :
    (pressureOf defaults.pdis [1460, 1462, 1466, 1468], pressureOf defaults.pint [600]) = (1000, 46) := by decide

/-- The bits of these bytes, the most significant of each first, and then a part byte of three bits (R173). -/
def shifted (bytes : List Byte) : List Bool :=
  bytes.flatMap (fun b => (List.range 8).map (fun k => b.getLsbD (7 - k))) ++ [true, false, true]

/-- R173, R178, R181: a STATUS frame is answered OK with the code's echo, a part byte after it dropped. -/
theorem test_status_frame :
    after (.transactionEnd (shifted [0x5A, 0x20, 0x00, 0x00, 0x68])) { work with cp := { work.cp with txn := .active } }
      (fun t => (t.cp.answer.code, t.cp.answer.result)) = (0x20, .ok) := by decide +kernel

/-- R174: the same frame with a wrong CRC-8 is a bad frame. -/
theorem test_bad_frame :
    after (.transactionEnd (shifted [0x5A, 0x20, 0x00, 0x00, 0x69])) { work with cp := { work.cp with txn := .active } }
      (fun t => t.cp.answer) = ⟨0x20, .badFrame, .empty⟩ := by decide +kernel

/-! ## One step each -/

theorem test_open_takes_slot_zero :
    after (.openDemand 2 (.pumpStat (some .pressure) 5000)) work (fun t => (t.cp.answer.result, (t.dt.slot 0).isFree))
      = (.clamped, false) := by decide

theorem test_open_starts_the_shift :
    after (.openDemand 2 (.pumpStat (some .pressure) 1000)) work (fun t => (t.rm.split.cmd, t.mc.mode))
      = (true, .shifting) := by decide

theorem test_retire_advances_generation :
    after (.retire (some ⟨1, 3⟩)) (State.holding 1 (served (.aux .a) .queued) work) (fun t => t.dt.slot 1) = ⟨4, .free⟩ := by
  decide

theorem test_query_stale :
    after (.query false (some ⟨5, 0⟩)) work (fun t => t.cp.answer) = ⟨0x05, .stale, .stale .free 0⟩ := by decide

theorem test_find_one :
    after (.find 2 false (some ⟨none, ⟨true, false, false, false, false⟩, false⟩))
      (State.holding 7 (served (.aux .a) .queued) work) (fun t => t.cp.answer.body) = .found [⟨7, 3⟩] := by decide

theorem test_renew_other_station :
    after (.renew 1 (some ⟨1, 3⟩)) (State.holding 1 (rolls .queued) work) (fun t => t.cp.answer.result) = .notOwner := by decide

theorem test_governor_step :
    after .governorUpdate { governed with pi := { governed.pi with pdis := ⟨.valid, [], 0, 0, some 900⟩ } }
      (fun t => (t.pg.lastStep, t.pg.demand)) = (18, 1018) := by decide

theorem test_lease_expiry_holds :
    after (.leaseExpiry 1) (State.holding 1 (rolls .queued) work) (fun t => (t.dt.slot 1).record.map Rec.state)
      = some .held := by decide

theorem test_second_critical_is_lockdown :
    after .splitWatchExpiry { State.faulted governed with mc := { governed.mc with splitTimer := some 0 } }
      (fun t => (t.mc.mode, t.rm.split.cmd, t.fc.lockdown)) = (.lockdown, true, true) := by decide

theorem test_pressure_third_bad_is_fault :
    after (.pressureConversion 100 1000) { work with pi := { work.pi with pdis := ⟨.valid, [1464], 2, 0, some 1000⟩ } }
      (fun t => (t.pi.pdis.state, t.pi.pdis.published, t.fc.standard.map Capture.cause))
      = (.fault, some 1000, some .pdisSensor) := by decide

/-- R83: an expiry that waits behind a RENEW does not happen: the record keeps its new lease. -/
theorem test_renew_overtakes_the_expiry :
    after (.leaseExpiry 1) (stateOf work (exec (.renew 2 (some ⟨1, 3⟩)) (State.holding 1 (rolls .queued) work)))
      (fun t => (t.dt.slot 1).record.map (fun r => (r.reasons.lease, r.lease))) = some (false, ⟨2000, true, false⟩) := by decide

/-- R176: -2 in two's complement and 4660, most significant byte first. -/
theorem test_numbers_in_bodies : (bytesOfInt 2 (-2), bytesOfInt 2 4660) = ([0xFF, 0xFE], [0x12, 0x34]) := by decide

/-- R19: a FIND that matches nothing carries a count of 0; R172: the also set comes after its count. -/
theorem test_counts_in_bodies :
    ((Body.found []).items, (Body.faults none [.pumpSlip] none false none).items.take 3)
      = ([.nat 0], [.mark false, .nat 1, .name (.cause .pumpSlip)]) := rfl

theorem test_level_x4_up :
    after (.levelSample .t0 true false false false) (watered 10 100) (fun t => t.pcu.l0.count) = 11 := by decide

theorem test_cold_reset_forgets_the_channel :
    after .coldReset (watered 10 100) (fun t => (t.pcu.l0.count, t.cp.resetKind)) = (0, .cold) := by decide

theorem test_warm_reset_keeps_the_channel :
    after (.warmReset .pin) (watered 10 100) (fun t => (t.pcu.l0.count, t.cp.resetKind)) = (10, .pin) := by decide

theorem test_reset_end_starts_sampling :
    after .resetEnd (stateOf work (exec .coldReset work)) (fun t => t.mc.sampleTimer) = some 5 := by decide

theorem test_erase_needs_the_drive_free :
    after .profileErase pumping (fun t => t.cp.answer.result) = .notPermitted := by decide

theorem test_unlock_needs_blank :
    after .profileUnlock work (fun t => t.cp.answer.result) = .locked := by decide

/-! ## States that meet the hypotheses of the obligations -/

theorem test_meets_emptyQueue : work.pending = [] ∧ ∃ s : State, s.pending = [] ∧ s.mc.stillOvertaken = true :=
  ⟨rfl, { work with mc := { work.mc with stillOvertaken := true } }, rfl, rfl⟩

theorem test_meets_frameCheck : (List.replicate 60 (0x00 : Byte)).length ≤ 60 := by decide

theorem test_meets_frameCodes :
    ∀ code ∈ [(0x08 : Byte), 0x15, 0x25, 0xFF], 0x07 < code.toNat ∧
      code.toNat ∉ [0x10, 0x11, 0x12, 0x13, 0x14, 0x18, 0x19, 0x20, 0x21, 0x22, 0x23, 0x24, 0x30, 0x31, 0x32, 0x33, 0x34] := by
  decide

/-- A transaction in progress. -/
def inTransaction : State := { work with cp := { work.cp with txn := .active } }

theorem test_meets_frames_known :
    inTransaction.cp.txn = .active ∧ [true, false, true, false, true, false, true].length < 8 ∧ (List.replicate 60 (0x00 : Byte)).length ≤ 60
      ∧ decodeRequest 0x24 0x00 (List.replicate 60 0x00) = some .resync := by decide

theorem test_meets_frames_unsound :
    (0xA6 : Byte) ≠ 0x5A ∧ ([0x20, 0x00] : List Byte).length < 3 ∧ 60 < (61 : Byte).toNat
      ∧ (60 : Byte).toNat ≤ 60 ∧ (List.replicate 60 (0x00 : Byte)).length < (60 : Byte).toNat + 1
      ∧ decodeRequest 0x08 0x00 [] = none := by decide

theorem test_meets_frames_wrong_crc : (0x69 : Byte) ≠ crc8 [0x20, 0x00, 0x00] := by decide +kernel

theorem test_meets_start : work.sys.resetActive = false ∧ work.cp.txn = .idle := by decide

theorem test_meets_shift_out :
    (answerBytes Answer.reset)[0]? = some 0xA6 ∧ (answerBytes Answer.reset)[5]? = none ∧ (7 : Nat) < 8 := by
  refine ⟨rfl, ?_, by decide⟩
  simp [answerBytes, Answer.reset, bodyBytes, itemBytes, Body.items]

theorem test_meets_status : work.sys.resetActive = false ∧ work.cp.txn ≠ .aborted := by decide

theorem test_meets_notTaken :
    requestCode (.retireStation 1) = some 0x04
      ∧ (stateOf work (exec .coldReset work)).sys.resetActive = true
      ∧ ({ work with cp := { work.cp with txn := .aborted } } : State).cp.txn = .aborted
      ∧ ({ work with cp := { work.cp with resync := true } } : State).cp.resync = true
      ∧ (0x04 : Byte) ≠ 0x00 ∧ (0x04 : Byte) ≠ 0x20 := by decide

theorem test_meets_serving : Serving work ∧ AtRest work := by decide

theorem test_meets_resync :
    Serving governed ∧ AtRest governed ∧ governed.fc.lockdown = false ∧ governed.ps.op = none ∧ governed.rm.shift = none
      ∧ governed.rm.queue = [] := by decide

/-- An apply in flight beside an occupied slot and a slot reserved by nobody. -/
def resyncing : State := { governed with
  dt := ⟨(governed.dt.slots.set 5 ⟨15, .reserved⟩).set 6 ⟨0, .reserved⟩, governed.dt.governing⟩
  pe := { governed.pe with apply := some ⟨0, 2, 1, [5], 0, 1, []⟩ } }

theorem test_meets_resync_slots :
    Serving resyncing ∧ AtRest resyncing ∧ (resyncing.dt.slot 5).cond = .reserved ∧ (resyncing.dt.slot 6).cond = .reserved
      ∧ (∀ a, resyncing.pe.apply = some a → 5 ∈ a.slots ∧ 6 ∉ a.slots) ∧ ∃ r ∈ resyncing.dt.records, r.changed = false := by
  refine ⟨by decide, by decide, by decide, by decide, ?_, served (.pumpStat .pressure 1000) .active, by decide, rfl⟩
  intro a ha
  cases ha
  decide

/-- A take-off ENGAGE waiting in PREPARE because the vehicle moves. -/
def waiting : State := { State.shifting ⟨.ptoa, .engage, .prepare, 5⟩ work with
  mc := { work.mc with still := false, mode := .shifting, parkhold := true, range := .neutralOnly } }

theorem test_meets_resync_prepare :
    Serving waiting ∧ AtRest waiting ∧ waiting.fc.lockdown = false ∧ waiting.ps.op = none ∧ waiting.pe.apply = none
      ∧ waiting.rm.shift = some ⟨.ptoa, .engage, .prepare, 5⟩ ∧ waiting.preconditions .ptoa .engage = false
      ∧ (waiting.res .ptoa).conf = waiting.input .ptoa ∧ waiting.rm.pumpPath = waiting.rm.pathEngaged := by decide

theorem test_meets_resync_actuate :
    Serving (State.shifting ⟨.ptoa, .engage, .actuate, 5⟩ waiting) ∧ AtRest (State.shifting ⟨.ptoa, .engage, .actuate, 5⟩ waiting)
      ∧ (State.shifting ⟨.ptoa, .engage, .actuate, 5⟩ waiting).rm.shift = some ⟨.ptoa, .engage, .actuate, 5⟩ := by decide

/-- A part in lockdown, and one whose store erases. -/
theorem test_meets_resync_refused :
    let s := { work with ps := { work.ps with op := some (.erase 0) } }
    Serving (State.locked work) ∧ (State.locked work).fc.lockdown = true
      ∧ Serving s ∧ s.fc.lockdown = false ∧ s.ps.op.isSome = true := by decide

/-- The state with a RESYNC in progress and a transaction under way. -/
def State.resyncs (s : State) : State := { s with
  cp := { s.cp with resync := true, txn := .active }, rm := { s.rm with closed := true } }

/-- The store writing a group. -/
def writing : State := { work with ps := { work.ps with op := some (.write 4 [] 0 60) } }

/-- A table without a FREE slot. -/
def full : State := work.setDt ⟨List.replicate 24 ⟨0, .reserved⟩, []⟩

theorem test_meets_open_refused :
    Serving writing ∧ writing.ps.op.isSome = true
      ∧ Serving work ∧ work.ps.op = none ∧ specOf (.discharge 8 (some .intake) 100 none) = none
      ∧ specOf (.discharge 7 (some .tank) 100 none) = some (.discharge 7 .tank 100 none)
      ∧ work.tanksPresent (.discharge 7 .tank 100 none) = false
      ∧ specOf (.pumpStat (some .speed) 900) = some (.pumpStat .speed 900) ∧ work.tanksPresent (.pumpStat .speed 900) = true
      ∧ State.reset.ps.validity ≠ .valid ∧ Serving State.reset ∧ State.reset.tanksPresent (.pumpStat .speed 900) = true
      ∧ Serving (State.locked work) ∧ (State.locked work).fc.lockdown = true := by decide

theorem test_meets_open_full :
    Serving full ∧ full.ps.validity = .valid ∧ full.fc.lockdown = false ∧ full.dt.slots.length = 24
      ∧ (∀ i, i < 24 → (full.dt.slot i).cond ≠ .free) := by decide

theorem test_meets_open_conflict :
    (Spec.pumpStat .speed 900).kind = .pumpStat ∧ (State.holding 23 (rolls .queued) work).dt.holdsKind .pumpRoll
      ∧ (∃ i, i < 24 ∧ ((State.holding 23 (rolls .queued) work).dt.slot i).cond = .free) :=
  ⟨rfl, ⟨rolls .queued, by decide, rfl, rfl⟩, 0, by decide⟩

theorem test_meets_open_conflict_other_way :
    (Spec.pumpRoll .speed 900).kind = .pumpRoll ∧ governed.dt.holdsKind .pumpStat :=
  ⟨rfl, served (.pumpStat .pressure 1000) .active, by decide, rfl, rfl⟩

theorem test_meets_open_outlet :
    ∃ r ∈ (State.holding 0 (served (.discharge 7 .intake 100 none) .held) work).dt.records,
      r.isForfeit = false ∧ ∃ src f p, r.demand = .discharge 7 src f p :=
  ⟨served (.discharge 7 .intake 100 none) .held, by decide, rfl, .intake, 100, none, rfl⟩

theorem test_meets_open_discharge :
    Serving (watered 7312 7600) ∧ AtRest (watered 7312 7600) ∧ (watered 7312 7600).ps.op = none
      ∧ (watered 7312 7600).ps.validity = .valid ∧ (watered 7312 7600).fc.lockdown = false
      ∧ specOf (.discharge 7 (some .tank) 10001 none) = some (.discharge 7 .tank 10001 none)
      ∧ (watered 7312 7600).tanksPresent (.discharge 7 .tank 10001 none) = true
      ∧ (watered 7312 7600).dt.freeSlots = List.range 24 ∧ (watered 7312 7600).dt.outletBusy (some 7) = false := by decide

theorem test_meets_open_engaged :
    Serving pumping ∧ AtRest pumping ∧ pumping.dt.freeSlots = List.range 24 ∧ pumping.dt.pathConflict .pumpStat = false
      ∧ pumping.ps.op = none ∧ pumping.ps.validity = .valid ∧ pumping.fc.lockdown = false
      ∧ pumping.rm.shift = none ∧ pumping.rm.queue = [] ∧ pumping.rm.split.conf = .engaged ∧ pumping.rm.split.cmd = true
      ∧ pumping.rm.split.cut = false := by decide

/-- Pump-and-roll: PTOR engaged and confirmed, mode ROLL. -/
def rollPumping : State := { work with
  mc := { work.mc with mode := .roll, deb := initDebouncers ⟨true, true, false, true, false, true, false, false⟩ }
  rm := { work.rm with ptor := ⟨true, .engaged, 0, true, false, none, true⟩ } }

theorem test_meets_open_engaged_ptor :
    Serving rollPumping ∧ AtRest rollPumping ∧ rollPumping.dt.freeSlots = List.range 24 ∧ rollPumping.ps.op = none
      ∧ rollPumping.ps.validity = .valid ∧ rollPumping.fc.lockdown = false ∧ rollPumping.dt.pathConflict .pumpRoll = false
      ∧ rollPumping.rm.shift = none ∧ rollPumping.rm.queue = [] ∧ (rollPumping.res .ptor).conf = .engaged
      ∧ (rollPumping.res .ptor).cmd = true ∧ (rollPumping.res .ptor).cut = false := by decide

/-- The working part before its vehicle is still. -/
def rolling : State := { work with mc := { work.mc with still := false } }

theorem test_meets_open_starts :
    Serving rolling ∧ AtRest rolling ∧ LockoutsAgree rolling ∧ rolling.mc.derived = true ∧ rolling.ps.op = none
      ∧ rolling.ps.validity = .valid ∧ rolling.fc.lockdown = false ∧ rolling.dt.freeSlots = List.range 24
      ∧ rolling.dt.pathConflict .pumpStat = false ∧ rolling.rm.shift = none ∧ rolling.rm.queue = []
      ∧ rolling.rm.closed = false ∧ rolling.rm.split.conf = .disengaged ∧ rolling.rm.split.cmd = false
      ∧ rolling.rm.split.holders = 0 ∧ rolling.rm.split.cut = false ∧ rolling.mc.still = false := by decide

theorem test_meets_open_starts_take_off :
    rolling.dt.pathConflict .pumpRoll = false ∧ rolling.mc.splitPos ≠ .unknown
      ∧ ∀ r ∈ [Res.ptor, .ptoa, .ptob], (rolling.res r).conf = .disengaged ∧ (rolling.res r).cmd = false
        ∧ (rolling.res r).holders = 0 ∧ (rolling.res r).cut = false := by decide

/-- 3.7 event 1, R37 to R39: in a parked part an OPEN's ENGAGE passes PREPARE at once; PTOA's, confirmed already, goes on to SETTLE. -/
theorem test_meets_open_starts_ready :
    let s := { work with
      mc := { work.mc with deb := initDebouncers ⟨true, true, false, true, false, false, true, false⟩ } }
    Serving s ∧ AtRest s ∧ LockoutsAgree s ∧ s.pcu.eng.published ≤ s.par.engageLimit ∧ s.mc.accepted.neutral = true ∧ s.mc.still = true
      ∧ s.mc.accepted.park = true ∧ s.rm.ptor.conf = .disengaged ∧ s.rm.split.conf = .disengaged
      ∧ [DemandBody.pumpStat (some .pressure) 1000, .pumpRoll (some .speed) 900, .aux (some .a), .aux (some .b)].map (fun d =>
          after (.openDemand 2 d) s (fun t => t.rm.shift.map (fun sh => (sh.res, sh.stage))))
        = [some (.split, .actuate), some (.ptor, .actuate), some (.ptoa, .settle), some (.ptob, .actuate)] := by decide

/-- R8, R32, R33: PTOA's ENGAGE waits in PREPARE with PTOB's queued behind it: PUMP_STAT and PUMP_ROLL are appended at the back, AUX B
finds its entry there, AUX A its shift. -/
theorem test_meets_open_queued :
    let s := { waiting with rm := { waiting.rm with queue := [⟨.ptob, .engage, false⟩] } }
    Serving s ∧ AtRest s ∧ LockoutsAgree s ∧ s.dt.freeSlots = List.range 24 ∧ s.rm.shift = some ⟨.ptoa, .engage, .prepare, 5⟩
      ∧ (∀ r ∈ allRes, (s.res r).cut = false ∧ (s.res r).cmd = false ∧ (s.res r).holders = 0 ∧ (s.res r).orphan = false)
      ∧ [DemandBody.pumpStat (some .pressure) 1000, .pumpRoll (some .speed) 900, .aux (some .b), .aux (some .a)].map (fun d =>
          after (.openDemand 2 d) s (fun t => (t.rm.queue.map Entry.res, (t.dt.slot 0).record.map Rec.state)))
        = [([.ptob, .split], some .queued), ([.ptob, .ptor], some .queued), ([.ptob], some .queued), ([.ptob], some .engaging)] := by
  decide

/-- PTOA's DISENGAGE in ACTUATE: an AUX A is QUEUED and nothing is appended. -/
theorem test_meets_open_behind_disengage :
    let s := State.shifting ⟨.ptoa, .disengage, .actuate, 5⟩ work
    Serving s ∧ AtRest s ∧ LockoutsAgree s ∧ (s.res .ptoa).orphan = false ∧ s.rm.queue = []
      ∧ after (.openDemand 2 (.aux (some .a))) s (fun t => (t.rm.queue, (t.dt.slot 0).record.map Rec.state))
        = ([], some .queued) := by decide

/-- One record of each kind that AMEND changes. -/
def mixed : State :=
  State.holding 0 (served (.pumpStat .speed 900) .queued) (State.holding 1 (rolls .queued)
    (State.holding 2 (served (.discharge 7 .intake 100 none) .held)
      (State.holding 3 (served (.discharge 6 .intake 100 (some ⟨.t1, 30, .noFoamDrive⟩)) .held)
        (State.holding 23 (served (.aux .a) .queued)
          { work with tk := { work.tk with t1 := { Tank.absent with present := true } } }))))

theorem test_meets_amend :
    Serving mixed ∧ AtRest mixed ∧ mixed.fc.lockdown = false ∧ mixed.dt.slots.length = 24
      ∧ mixed.dt.slot 0 = ⟨3, .occupied (served (.pumpStat .speed 900) .queued)⟩
      ∧ mixed.dt.slot 1 = ⟨3, .occupied (rolls .queued)⟩
      ∧ mixed.dt.slot 2 = ⟨3, .occupied (served (.discharge 7 .intake 100 none) .held)⟩
      ∧ mixed.dt.slot 3 = ⟨3, .occupied (served (.discharge 6 .intake 100 (some ⟨.t1, 30, .noFoamDrive⟩)) .held)⟩
      ∧ mixed.dt.slot 23 = ⟨3, .occupied (served (.aux .a) .queued)⟩
      ∧ mixed.tankPresent (foamTankId .t1) = true
      ∧ (∀ r ∈ mixed.dt.records, r.isForfeit = false ∧ 1 ≤ r.station ∧ r.station ≤ 6) := by decide

/-- The foam part of slot 3 moves to T2, or keeps T1; the record of slot 2 is given one. -/
theorem test_meets_amend_foam :
    (1 : Nat) ≤ 1 ∧ (100 : Nat) ≤ 100 ∧ mixed.tankPresent (foamTankId .t1) = true
      ∧ ({ mixed with tk := { mixed.tk with t2 := { Tank.absent with present := true } } } : State).tankPresent (foamTankId .t2)
        = true := by decide

/-- AMEND's checks meet a body out of range, an absent tank, lockdown, slots of each condition, and another station, kind,
take-off, outlet and source. -/
theorem test_meets_amend_refused :
    specOf (.discharge 8 (some .tank) 0 none) = none ∧ specOf (.discharge 7 (some .tank) 0 (some ⟨2, 101⟩)) = none
      ∧ specOf (.discharge 7 (some .intake) 0 (some ⟨2, 100⟩)) = some (.discharge 7 .intake 0 (some (.t2, 100)))
      ∧ (Spec.discharge 7 .intake 0 (some (.t2, 100))).foamTank = some .t2 ∧ mixed.tankPresent (foamTankId .t2) = false
      ∧ Serving (State.locked mixed) ∧ (State.locked mixed).fc.lockdown = true ∧ Serving mixed ∧ mixed.fc.lockdown = false
      ∧ mixed.dt.slots.length = 24 ∧ (mixed.dt.slot 22).cond = .free ∧ (full.dt.slot 23).cond = .reserved
      ∧ mixed.dt.slot 0 = ⟨3, .occupied (served (.pumpStat .speed 900) .queued)⟩ ∧ (3 : Nat) ≠ 4
      ∧ specOf (.aux (some .b)) = some (.aux .b) ∧ (served (.aux .a) .queued).demand = .aux .a ∧ Target.a ≠ .b
      ∧ (served (.aux .a) .queued).isForfeit = false ∧ (served (.aux .a) (.forfeit .pathLost)).isForfeit = true
      ∧ (served (.aux .a) .queued).station ≠ 1 ∧ (served (.aux .a) .queued).demand.kind ≠ (Spec.pumpStat .speed 900).kind
      ∧ Source.tank ≠ .intake ∧ (6 : Nat) ≠ 7 := by decide

theorem test_meets_retire_forfeit :
    (mixed.dt.setSlot 5 ⟨15, .occupied (served (.aux .b) (.forfeit .lockdown))⟩).slot 5
        = ⟨15, .occupied (served (.aux .b) (.forfeit .lockdown))⟩
      ∧ (served (.aux .b) (.forfeit .lockdown)).isForfeit = true := by decide

/-- RETIRE meets a slot of each condition, another generation, a live DISCHARGE and a FORFEIT record in a part at rest. -/
theorem test_meets_retire :
    Serving mixed ∧ Serving full ∧ AtRest mixed ∧ mixed.dt.slots.length = 24 ∧ (mixed.dt.slot 22).cond = .free
      ∧ (full.dt.slot 0).cond = .reserved ∧ (mixed.dt.slot 2).gen ≠ 4
      ∧ mixed.dt.slot 2 = ⟨3, .occupied (served (.discharge 7 .intake 100 none) .held)⟩
      ∧ (served (.discharge 7 .intake 100 none) .held).demand.kind = .discharge
      ∧ (State.holding 5 (served (.aux .b) (.forfeit .lockdown)) mixed).dt.slot 5
        = ⟨3, .occupied (served (.aux .b) (.forfeit .lockdown))⟩
      ∧ (mixed.dt.slot 1).record.map Rec.station = some 2 := by decide

/-- The only holder of PTOA, engaged. -/
def lastHolder : State := State.holding 23 (served (.aux .a) .active) { work with
  mc := { work.mc with deb := initDebouncers ⟨true, true, false, true, false, false, true, false⟩ }
  rm := { work.rm with ptoa := ⟨true, .engaged, 1, false, false, none, true⟩ } }

theorem test_meets_retire_last :
    Serving lastHolder ∧ AtRest lastHolder ∧ lastHolder.fc.lockdown = false ∧ lastHolder.dt.slots.length = 24
      ∧ lastHolder.dt.slot 23 = ⟨3, .occupied (served (.aux .a) .active)⟩ ∧ lastHolder.rm.ptoa.holders = 1
      ∧ lastHolder.rm.ptoa.cmd = true ∧ lastHolder.rm.ptoa.cut = false ∧ lastHolder.rm.shift = none
      ∧ lastHolder.rm.queue = [] ∧ lastHolder.rm.closed = false ∧ lastHolder.mc.accepted.ptoaOn = true := by decide

/-- R34, R37: SPLIT's only holder is retired with the engine over the engage limit, and at a standstill below it. -/
theorem test_meets_retire_last_split : ∀ rpm ∈ [1001, 1000],
    let s := State.holding 23 (served (.pumpStat .speed 900) .active)
      { pumping with pcu := { pumping.pcu with eng := ⟨0, [], rpm⟩ } }
    Serving s ∧ AtRest s ∧ s.fc.lockdown = false ∧ s.dt.slots.length = 24
      ∧ s.dt.slot 23 = ⟨3, .occupied (served (.pumpStat .speed 900) .active)⟩ ∧ s.rm.split.holders = 1 ∧ s.rm.split.cut = false
      ∧ s.rm.split.cmd = true ∧ s.rm.split.conf = .engaged ∧ s.rm.shift = none ∧ s.rm.queue = [] ∧ s.rm.closed = false
      ∧ s.mc.derived = true ∧ s.par.engageLimit = 1000 ∧ s.mc.accepted.neutral = true ∧ s.mc.still = true := by decide

theorem test_meets_open_engaged_aux :
    lastHolder.dt.freeSlots = List.range 23 ∧ lastHolder.ps.op = none ∧ lastHolder.ps.validity = .valid
      ∧ (lastHolder.res .ptoa).conf = .engaged ∧ (lastHolder.res .ptoa).cmd = true := by decide

/-- R52, R13: an AUX on a cut take-off is HELD with SPEED_CUT and brings no shift. -/
theorem test_meets_open_cut :
    let s := State.onRes .ptob (fun x => { x with cut := true }) work
    Serving s ∧ AtRest s ∧ s.dt.freeSlots = List.range 24 ∧ (s.res .ptob).cut = true
      ∧ after (.openDemand 2 (.aux (some .b))) s (fun t => (t.rm.shift, t.rm.queue, (t.dt.slot 0).record.map Rec.state))
        = (none, [], some .held) := by decide

theorem test_meets_retire_last_confirm_gone :
    let s := { lastHolder with mc := work.mc }
    Serving s ∧ AtRest s ∧ s.mc.accepted.ptoaOn = false ∧ s.rm.ptoa.cmd = true := by decide

/-- PTOA engaged with its DISENGAGE queued behind the ENGAGE of PTOB. -/
def releasing : State := State.shifting ⟨.ptob, .engage, .prepare, 5⟩ { work with
  mc := { lastHolder.mc with mode := .shifting, parkhold := true, range := .neutralOnly }
  rm := { lastHolder.rm with ptoa := { lastHolder.rm.ptoa with holders := 0 }, queue := [⟨.ptoa, .disengage, false⟩] } }

theorem test_meets_open_withdraws :
    Serving releasing ∧ AtRest releasing ∧ releasing.dt.freeSlots = List.range 24 ∧ releasing.ps.op = none
      ∧ releasing.ps.validity = .valid ∧ (∀ sh, releasing.rm.shift = some sh → sh.res ≠ .ptoa)
      ∧ (∀ e ∈ releasing.rm.queue, e.res = .ptoa → e.op = .disengage ∧ (releasing.res .ptoa).holders = 0)
      ∧ (releasing.res .ptoa).conf = .engaged ∧ (releasing.res .ptoa).cmd = true ∧ (releasing.res .ptoa).cut = false :=
  ⟨by decide, by decide, by decide, by decide, by decide, fun _ h => by cases h; decide, by decide, by decide, by decide, by decide⟩

/-- SPLIT at PUMP with its DISENGAGE waiting in PREPARE. -/
def unsplitting : State := State.shifting ⟨.split, .disengage, .prepare, 5⟩ { pumping with
  mc := { pumping.mc with mode := .shifting, parkhold := true, range := .neutralOnly, sp := false }
  rm := { pumping.rm with split := { pumping.rm.split with holders := 0 } } }

theorem test_meets_open_cancels :
    Serving unsplitting ∧ AtRest unsplitting ∧ unsplitting.dt.freeSlots = List.range 24 ∧ unsplitting.ps.op = none
      ∧ unsplitting.ps.validity = .valid ∧ unsplitting.rm.shift = some ⟨.split, .disengage, .prepare, 5⟩
      ∧ unsplitting.rm.queue = [] ∧ unsplitting.rm.split.cut = false ∧ unsplitting.mc.splitPos = .engaged
      ∧ unsplitting.dt.pathConflict .pumpStat = false
      ∧ after (.openDemand 2 (.pumpStat (some .speed) 900)) unsplitting (fun t =>
          (decide (t.fc = unsplitting.fc), (t.dt.slot 0).record.map Rec.state)) = (true, some .active) := by decide

/-- The demand whose kind needs a resource. -/
def demandOf : Res → Demand
  | .split => .pumpStat .speed 900
  | .ptor => .pumpRoll .speed 900
  | .ptoa => .aux .a
  | .ptob => .aux .b

/-- The only holder of a resource at its disengaged position, and the Resource Manager as given. -/
def firstHolder (q : Res) (f : RM → RM) (m : Mode) : State :=
  let s := State.holding 23 (served (demandOf q) .queued) (State.onRes q (fun x => { x with holders := 1 }) work)
  { s with rm := f s.rm, mc := { s.mc with mode := m, parkhold := parkholdOf m, range := rangeOf m } }

/-- The premises of a retired last holder. -/
def RetiresLast (q : Res) (s : State) : Prop :=
  Serving s ∧ AtRest s ∧ s.fc.lockdown = false ∧ s.dt.slots.length = 24
    ∧ s.dt.slot 23 = ⟨3, .occupied (served (demandOf q) .queued)⟩ ∧ (demandOf q).resource = some q
    ∧ (s.res q).holders = 1 ∧ (s.res q).cut = false ∧ (s.res q).cmd = false

theorem test_meets_retire_cancels : ∀ q ∈ allRes,
    RetiresLast q (firstHolder q (fun m => { m with shift := some ⟨q, .engage, .prepare, 5⟩ }) .shifting) := by
  unfold RetiresLast
  decide

theorem test_meets_retire_withdraws : ∀ q ∈ allRes,
    RetiresLast q (firstHolder q (fun m => { m with queue := [⟨q, .engage, true⟩] }) .road) := by
  unfold RetiresLast
  decide

theorem test_meets_lookups :
    Serving mixed ∧ mixed.dt.slots.length = 24 ∧ (mixed.dt.slot 22).cond = .free ∧ (full.dt.slot 23).cond = .reserved
      ∧ Serving full ∧ (mixed.dt.slot 0).gen ≠ 4
      ∧ (⟨true, false, false, false, false⟩ : StateSet) ≠ ⟨false, false, false, false, false⟩ := by decide

theorem test_meets_renew :
    Serving mixed ∧ (State.locked work).fc.lockdown = true ∧ (rolls .queued).demand.kind = .pumpRoll
      ∧ (mixed.dt.slot 22).cond = .free ∧ (full.dt.slot 23).cond = .reserved ∧ (mixed.dt.slot 1).gen ≠ 4
      ∧ (served (.aux .a) .queued).demand.kind ≠ .pumpRoll ∧ (rolls .queued).station ≠ 1 ∧ (rolls .queued).station = 2
      ∧ (rolls (.forfeit .pathLost)).isForfeit = true
      ∧ (rolls .queued).isForfeit = false ∧ AtRest mixed
      ∧ (State.holding 23 (rolls (.forfeit .pathLost)) work).dt.slot 23 = ⟨3, .occupied (rolls (.forfeit .pathLost))⟩ := by decide

theorem test_meets_lease :
    AtRest mixed ∧ (mixed.dt.slot 1).record = some (rolls .queued) ∧ (rolls .queued).lease.running = true
      ∧ (rolls .queued).reasons.lease = false ∧ (served (.aux .a) .queued).lease.running = false := by decide

theorem test_meets_lease_overtaken :
    let r : Rec := { rolls .queued with lease := ⟨2000, true, true⟩ }
    ((State.holding 23 r work).dt.slot 23).record = some r ∧ r.lease.overtaken = true ∧ (rolls .queued).lease.overtaken = false := by
  decide

/-- Pump and roll with one ACTIVE record that the governor follows. -/
def rollGoverned : State := { work with
  dt := ⟨work.dt.slots.set 1 ⟨3, .occupied (rolls .active)⟩, [⟨1, 3⟩]⟩
  mc := { work.mc with
    mode := .roll, range := .lowOnly, still := false, stillTimer := some 500
    deb := initDebouncers ⟨false, false, false, true, false, true, false, false⟩ }
  rm := { work.rm with ptor := ⟨true, .engaged, 1, false, false, none, true⟩, pumpPath := true }
  pg := { work.pg with state := .speed, governing := some ⟨1, 3⟩, demand := 900, thrMode := .floor } }

/-- The lease's expiry takes the last ACTIVE record off the governing list (R79). -/
theorem test_meets_lease_governing :
    AtRest rollGoverned ∧ (rollGoverned.dt.slot 1).record = some (rolls .active)
      ∧ rollGoverned.dt.governingDemand.isSome = true ∧ rollGoverned.pg.state ≠ .off
      ∧ after (.leaseExpiry 1) rollGoverned (fun t => (t.dt.governingDemand.isNone, t.pg.state, t.pg.thrMode))
        = (true, .idleHold, .off) := by decide

/-- A SPLIT ENGAGE in SETTLE with the position at PUMP. -/
def settling : State := State.shifting ⟨.split, .engage, .settle, 0⟩
  (State.holding 0 (served (.pumpStat .speed 900) .engaging) { pumping with
    mc := { pumping.mc with mode := .shifting, range := .neutralOnly, sp := false }
    rm := { pumping.rm with split := { pumping.rm.split with conf := .disengaged }, pumpPath := false } })

theorem test_meets_settle :
    settling.rm.shift = some ⟨.split, .engage, .settle, 0⟩ ∧ settling.rm.queue = [] ∧ settling.cp.resync = false
      ∧ settling.fc.lockdown = false ∧ settling.mc.derived = true ∧ settling.mc.splitPos = .engaged
      ∧ settling.rm.split.cmd = true ∧ 0 < settling.rm.split.holders ∧ settling.rm.split.cut = false
      ∧ settling.mc.accepted.park = true ∧ settling.pcu.roadSum ≤ settling.par.motionTolerance ∧ LockoutsAgree settling
      ∧ (settling.dt.slot 0).record = some (served (.pumpStat .speed 900) .engaging) := by decide

/-- A take-off shift of this operation in SETTLE, its confirm where the operation ends, beside a foam part. -/
def settlingOff (op : ShiftOp) : State := State.shifting ⟨.ptoa, op, .settle, 0⟩ (State.holding 0 (served (.aux .a) .engaging)
  (State.holding 1 (served (.discharge 7 .intake 100 (some ⟨.t1, 30, .noFoamDrive⟩)) .held) { work with
    mc := { work.mc with deb := initDebouncers ⟨true, true, false, true, false, false, op == .engage, false⟩ }
    rm := { work.rm with ptoa := ⟨op == .engage, .disengaged, if op = .engage then 1 else 0, false, false, none, true⟩ } }))

theorem test_meets_settle_take_off :
    let s := settlingOff .engage
    s.rm.queue = [] ∧ s.cp.resync = false ∧ s.fc.lockdown = false ∧ Res.ptoa ≠ .split
      ∧ s.rm.shift = some ⟨.ptoa, .engage, .settle, 0⟩ ∧ s.input .ptoa = .engaged ∧ (s.res .ptoa).cmd = true
      ∧ 0 < (s.res .ptoa).holders ∧ (s.res .ptoa).cut = false ∧ s.rm.ptoa.conf ≠ .engaged ∧ DrawsAgree s
      ∧ (served (.aux .a) .engaging).holds .ptoa = true := by decide

theorem test_meets_settle_disengage :
    let s := State.onRes .ptoa (fun x => { x with conf := .engaged }) (settlingOff .disengage)
    s.rm.shift = some ⟨.ptoa, .disengage, .settle, 0⟩ ∧ s.input .ptoa = .disengaged ∧ (s.res .ptoa).cmd = false
      ∧ (s.res .ptoa).holders = 0 ∧ (served (.aux .a) .engaging).isDischarge = false := by decide

/-- A RESYNC waits on PTOA's ENGAGE in SETTLE, with this queue behind it. -/
def resyncSettles (q : List Entry) : State :=
  State.resyncs { settlingOff .engage with rm := { (settlingOff .engage).rm with queue := q } }

theorem test_meets_resync_settle :
    ∀ q ∈ [[], [(⟨.ptob, .engage, false⟩ : Entry)]], ResyncWaits (resyncSettles q) ∧ (resyncSettles q).cp.resync = true
      ∧ (resyncSettles q).rm.shift = some ⟨.ptoa, .engage, .settle, 0⟩ ∧ (∀ e ∈ (resyncSettles q).rm.queue, e.res ≠ .ptoa)
      ∧ ((resyncSettles q).res .ptoa).holders = (resyncSettles q).dt.holdersOf .ptoa
      ∧ (resyncSettles q).input .ptoa = .engaged ∧ ((resyncSettles q).res .ptoa).cmd = true
      ∧ 0 < ((resyncSettles q).res .ptoa).holders ∧ ((resyncSettles q).res .ptoa).cut = false := by decide

/-- R183, R184: at DONE it completes, the entry queued takes the slot, and the record of PTOA's holder is ACTIVE. -/
theorem test_meets_resync_done :
    [[], [(⟨.ptob, .engage, false⟩ : Entry)]].map (fun q => after .settleExpiry (resyncSettles q) (fun t =>
        ((t.fc.lockdown, t.fc.critical.isNone, t.cp.txn, t.cp.flags.resyncDone),
          t.rm.shift.map Shift.res, (t.dt.slot 0).record.map Rec.state)))
      = [((false, true, .aborted, true), none, some .active), ((false, true, .aborted, true), some .ptob, some .active)] := by
  decide

/-- R184 step 3: a HELD holder whose changed flag is clear stays as it is but for that flag, and DEMAND_CHANGED is raised. -/
theorem test_meets_resync_held :
    let r := { served (.aux .a) .held with reasons := { Reasons.none with speedCut := true } }
    let s := State.resyncs (State.holding 0 r (settlingOff .engage))
    ResyncWaits s ∧ (s.dt.slot 0).record = some r ∧ r.changed = false ∧ r.state = .held
      ∧ after .settleExpiry s (fun t =>
          (decide ((t.dt.slot 0).record = some { r with changed := true }), t.cp.flags.demandChanged)) = (true, true) := by decide

theorem test_meets_prep :
    waiting.rm.shift = some ⟨.ptoa, .engage, .prepare, 5⟩ ∧ waiting.cp.resync = false ∧ waiting.rm.queue = []
      ∧ (waiting.res .ptoa).cmd = false ∧ (waiting.res .ptoa).holders = waiting.dt.holdersOf .ptoa
      ∧ waiting.fc.standard = none ∧ (served (.aux .a) .engaging).holds .ptoa = true := by decide

theorem test_meets_prep_split_disengage :
    let s := State.shifting ⟨.split, .disengage, .prepare, 0⟩ { pumping with
      mc := { pumping.mc with still := false }, rm := { pumping.rm with split := { pumping.rm.split with holders := 0 } } }
    s.rm.shift = some ⟨.split, .disengage, .prepare, 0⟩ ∧ s.rm.queue = [] ∧ s.rm.closed = false ∧ s.cp.resync = false
      ∧ s.fc.lockdown = false ∧ s.rm.split.cmd = true ∧ s.rm.split.holders = 0 ∧ s.preconditions .split .disengage = false
      ∧ s.fc.standard = none := by decide

theorem test_meets_confirm_engage :
    let s := State.shifting ⟨.ptoa, .engage, .actuate, 0⟩ (State.onRes .ptoa (fun x => { x with cmd := true }) waiting)
    s.rm.shift = some ⟨.ptoa, .engage, .actuate, 0⟩ ∧ s.cp.resync = false ∧ s.rm.queue = []
      ∧ (s.res .ptoa).holders = s.dt.holdersOf .ptoa ∧ s.fc.standard = none := by decide

theorem test_meets_confirm_disengage :
    let s := State.shifting ⟨.split, .disengage, .actuate, 0⟩
      (State.onRes .split (fun x => { x with cmd := false, holders := 0 }) pumping)
    s.rm.shift = some ⟨.split, .disengage, .actuate, 0⟩ ∧ s.cp.resync = false ∧ s.rm.queue = [] ∧ (s.res .split).holders = 0
      ∧ (s.res .split).cmd = false ∧ s.mc.splitPos ≠ .disengaged ∧ s.fc.lockdown = false ∧ s.fc.critical = none
      ∧ (State.faulted s).fc.critical.isSome = true := by decide

theorem test_meets_confirm_disengage_take_off :
    let s := State.shifting ⟨.ptob, .disengage, .actuate, 0⟩ work
    s.rm.shift = some ⟨.ptob, .disengage, .actuate, 0⟩ ∧ (s.res .ptob).holders = 0 ∧ (s.res .ptob).cmd = false
      ∧ Res.ptob ≠ .split ∧ s.fc.standard = none := by decide

/-- PTOA's ENGAGE in this stage for one holder while the part pumps, PARK clear and the critical slot filled: the shift's failure
brings the mode PUMP, PARK_RELEASED with it, and lockdown (R73, R166). -/
def failsIntoLockdown (stage : Stage) : State := State.faulted (State.shifting ⟨.ptoa, .engage, stage, 0⟩
  (State.holding 0 (served (.aux .a) .engaging) { pumping with
    mc := { pumping.mc with
      mode := .shifting, range := .neutralOnly, sp := false, deb := initDebouncers ⟨false, true, true, false, true, false, false, false⟩ }
    rm := { pumping.rm with ptoa := ⟨stage == .actuate, .disengaged, 1, false, false, none, true⟩ } }))

/-- R22, R25: the holder of a failed ENGAGE is FORFEIT with LOCKDOWN where the event ends in lockdown. -/
theorem test_meets_fails_into_lockdown :
    [(Stage.prepare, Instr.prepTimeout), (.actuate, .confirmExpiry)].map (fun p =>
        let s := failsIntoLockdown p.1
        (s.fc.lockdown, s.cp.resync, decide ((s.res .ptoa).holders = s.dt.holdersOf .ptoa),
          after p.2 s (fun t => (t.fc.lockdown, (t.dt.slot 0).record.map Rec.state))))
      = [(false, false, true, true, some (.forfeit .lockdown)), (false, false, true, true, some (.forfeit .lockdown))] := by decide

/-- The same in the event of PTOA's drift expiry. -/
theorem test_meets_drift_into_lockdown :
    let s := State.faulted (State.onRes .ptoa (fun x => { x with driftTimer := some 0 }) { lastHolder with
      mc := { pumping.mc with deb := initDebouncers ⟨false, true, true, false, true, false, false, false⟩ }
      rm := { lastHolder.rm with split := pumping.rm.split, pumpPath := true } })
    (s.res .ptoa).driftTimer.isSome = true ∧ (s.res .ptoa).driftArmed = true ∧ s.cp.resync = false ∧ (s.res .ptoa).cmd = true
      ∧ s.fc.lockdown = false
      ∧ after (.driftExpiry .ptoa) s (fun t => (t.fc.lockdown, (t.dt.slot 23).record.map Rec.state))
        = (true, some (.forfeit .lockdown)) := by decide

/-- A RESYNC waits on PTOA's ENGAGE in ACTUATE, which one record holds. -/
def resyncActuates : State := State.resyncs (State.shifting ⟨.ptoa, .engage, .actuate, 0⟩
  (State.holding 0 (served (.aux .a) .engaging) (State.onRes .ptoa (fun x => { x with cmd := true, holders := 1 }) waiting)))

theorem test_meets_resync_confirm :
    ∀ s ∈ [resyncActuates, State.resyncs (failsIntoLockdown .actuate)],
      ResyncWaits s ∧ (s.res .ptoa).holders = s.dt.holdersOf .ptoa ∧ s.rm.queue = [] := by decide

/-- R42, R183 to R185: the holder of the failed ENGAGE is FORFEIT with NO_CONFIRM, or with LOCKDOWN; either way RESYNC completes. -/
theorem test_meets_resync_fails :
    [resyncActuates, State.resyncs (failsIntoLockdown .actuate)].map (fun s =>
        after .confirmExpiry s (fun t => (t.cp.resync, t.fc.lockdown, (t.dt.slot 0).record.map Rec.state)))
      = [(false, false, some (.forfeit .noConfirm)), (false, true, some (.forfeit .lockdown))] := by decide

/-- R43, R185: the DISENGAGE of SPLIT that a RESYNC waits on fails; SPLIT_STUCK fills the critical slot, or is lockdown. -/
theorem test_meets_resync_stuck :
    let s := State.resyncs (State.shifting ⟨.split, .disengage, .actuate, 0⟩
      (State.onRes .split (fun x => { x with cmd := false, holders := 0 }) pumping))
    ResyncWaits s ∧ ResyncWaits (State.faulted s) ∧ (s.res .split).holders = s.dt.holdersOf .split ∧ s.fc.critical = none
      ∧ (State.faulted s).fc.critical.isSome = true
      ∧ [s, State.faulted s].map (fun s => after .confirmExpiry s (fun t => (t.cp.resync, t.fc.lockdown)))
        = [(false, false), (false, true)] := by decide

theorem test_meets_drift :
    let s := State.onRes .ptoa (fun x => { x with driftTimer := some 0 }) lastHolder
    (s.res .ptoa).driftTimer.isSome = true ∧ (s.res .ptoa).driftArmed = true ∧ s.cp.resync = false ∧ (s.res .ptoa).cmd = true
      ∧ (served (.aux .a) .active).holds .ptoa = true ∧ s.fc.standard = none ∧ (s.res .split).driftTimer = none := by decide

theorem test_meets_drift_split :
    let s := State.onRes .split (fun x => { x with driftTimer := some 0 }) work
    (s.res .split).driftTimer.isSome = true ∧ (s.res .split).driftArmed = true ∧ s.fc.lockdown = false
      ∧ s.fc.critical = none ∧ (State.faulted s).fc.critical.isSome = true := by decide

/-- PTOA found engaged against its command, its watch armed at the end of its time, or disarmed. -/
def drifted (armed : Bool) : State := { work with
  mc := { work.mc with deb := initDebouncers ⟨true, true, false, true, false, false, true, false⟩ }
  rm := { work.rm with ptoa := ⟨false, .engaged, 0, false, false, some 0, armed⟩ } }

theorem test_meets_drift_disengaged :
    AtRest (drifted true) ∧ ((drifted true).res .ptoa).driftTimer.isSome = true ∧ ((drifted true).res .ptoa).driftArmed = true
      ∧ ((drifted true).res .ptoa).cmd = false ∧ (drifted true).driftCondition .ptoa = true ∧ (drifted true).cp.resync = false := by
  decide

theorem test_meets_drift_disarmed :
    AtRest (drifted false) ∧ ((drifted false).res .ptoa).driftTimer.isSome = true
      ∧ ((drifted false).res .ptoa).driftArmed = false ∧ (drifted false).driftCondition .ptoa = true := by decide

/-- R45, R54: PTOA's lost confirm has been reported; it comes back in the sample that brings lockdown with PTOA released, and the
position is off the command again: a new episode begins, its watch armed and its timer at the confirm time. -/
theorem test_meets_drift_episodes :
    let raised : Debouncer := ⟨false, 3⟩
    let s : State := State.faulted { pumping with
      mc := { pumping.mc with
        sampleTimer := some 0, deb := { pumping.mc.deb with ptorOn := raised, ptoaOn := raised } }
      rm := { pumping.rm with ptoa := ⟨true, .disengaged, 0, false, false, none, false⟩ } }
    s.mc.sampleTimer.isSome = true ∧ s.mc.inited = true ∧ s.ps.validated = true ∧ s.rm.shift = none ∧ s.rm.queue = []
      ∧ s.cp.resync = false ∧ Res.ptoa ≠ .split
      ∧ after (.inputSample ⟨true, true, true, false, true, true, true, false⟩) s (fun t =>
          (t.fc.lockdown, t.input .ptoa, t.rm.ptoa.cmd, t.rm.ptoa.conf, t.rm.ptoa.driftTimer, t.rm.ptoa.driftArmed))
        = (true, .engaged, false, .engaged, some 1500, true) := by decide +kernel

/-- PTOA's confirm goes while it is commanded ENGAGED: the timer starts. -/
theorem test_meets_drift_begins :
    let s : State := { lastHolder with
      mc := { lastHolder.mc with sampleTimer := some 0, deb := { lastHolder.mc.deb with ptoaOn := ⟨true, 3⟩ } } }
    s.rm.shift = none ∧ s.rm.queue = []
      ∧ after (.inputSample ⟨true, true, false, true, false, false, false, false⟩) s (fun t =>
          (t.input .ptoa, t.rm.ptoa.cmd, t.rm.ptoa.driftTimer)) = (.disengaged, true, some 1500) := by decide

theorem test_meets_adoption :
    let s := State.onRes .split (fun x => { x with orphan := true }) { pumping with
      rm := { pumping.rm with adoption := some 0 } }
    s.rm.adoption.isSome = true ∧ s.cp.resync = false ∧ s.rm.shift = none ∧ s.rm.queue = [] ∧ s.rm.closed = false
      ∧ work.rm.adoption = none := by decide

theorem test_meets_slip :
    let s := { pumping with rm := { pumping.rm with slipTimer := some 0, rearmTimer := some 0 } }
    s.rm.slipTimer.isSome = true ∧ s.rm.slipArmed = true ∧ s.ps.validity = .valid ∧ s.rm.rearmTimer.isSome = true
      ∧ ({ s with rm := { s.rm with slipArmed := false } } : State).rm.slipArmed = false ∧ s.fc.standard = none := by decide

/-- Engine 1600 rpm from 1280 pulses, pump 1200 rpm from 32: slip; with 43 pulses, 1612 rpm, there is none. -/
theorem test_meets_slip_evaluation :
    let s (n : Nat) : State := { pumping with pcu := { pumping.pcu with
      engineStopped := false, eng := ⟨1280, [], 0⟩, pump := ⟨n, [], 0⟩ } }
    [32, 43].map (fun n => after .speedWindow (s n) (fun t =>
        (t.pcu.eng.published, t.pcu.pump.published, t.rm.slipTimer))) = [(1600, 1200, some 2000), (1600, 1612, none)]
      ∧ (s 32).pcu.windowTimer.isSome = true ∧ (s 32).ps.validity = .valid ∧ (s 32).mc.mode = .pump
      ∧ (s 32).mc.accepted.pumprange = true ∧ State.reset.ps.validity ≠ .valid := by decide

theorem test_meets_input :
    work.mc.sampleTimer.isSome = true ∧ work.mc.inited = true ∧ State.reset.mc.sampleTimer.isSome = true
      ∧ State.reset.mc.inited = false ∧ MC.reset.sampleTimer = none ∧ work.sys.resetActive = false := by decide

/-- The lines that these sampled levels become after the last of four samples. -/
def oneMore (l : Inputs) (s : State) : State := { s with mc := { s.mc with
  deb := { park := ⟨s.mc.deb.park.level, if l.park = s.mc.deb.park.level then 0 else 3⟩
           neutral := ⟨s.mc.deb.neutral.level, if l.neutral = s.mc.deb.neutral.level then 0 else 3⟩
           pumprange := s.mc.deb.pumprange, shroad := s.mc.deb.shroad, shpump := s.mc.deb.shpump
           ptorOn := ⟨s.mc.deb.ptorOn.level, if l.ptorOn = s.mc.deb.ptorOn.level then 0 else 3⟩
           ptoaOn := ⟨s.mc.deb.ptoaOn.level, if l.ptoaOn = s.mc.deb.ptoaOn.level then 0 else 3⟩
           ptobOn := s.mc.deb.ptobOn } } }

/-- R191: between the first sample and orphan marking; PTOA's confirm is accepted at the next sample. -/
theorem test_meets_early_sample :
    let l : Inputs := ⟨true, true, false, true, false, false, true, false⟩
    let s : State := { State.reset with
      mc := { State.reset.mc with inited := true, deb := { initDebouncers parked with ptoaOn := ⟨false, State.reset.par.debounce⟩ } } }
    s.mc.sampleTimer.isSome = true ∧ s.mc.inited = true ∧ s.ps.validated = false ∧ s.rm.shift = none ∧ s.rm.queue = []
      ∧ after (.inputSample l) s (fun t => (t.mc.accepted.ptoaOn, t.fc.lockdown, t.rm.ptoa.cmd)) = (true, false, true)
      ∧ after (.inputSample parked) s (fun t => t.mc.accepted) = parked := by decide

/-- A shift of PTOA in this stage with the confirm and NEUTRAL at these levels. -/
def moving (stage : Stage) (confirm neutral : Bool) : State :=
  State.shifting ⟨.ptoa, .engage, stage, 5⟩ { work with mc := { work.mc with
    mode := .shifting, parkhold := true, range := .neutralOnly
    deb := initDebouncers ⟨true, neutral, false, true, false, false, confirm, false⟩ } }

/-- R38, R39, R40: NEUTRAL comes and the shift enters ACTUATE; the confirm comes and it enters SETTLE; the confirm goes and it
is back in ACTUATE; each time an accepted level changes and no lockdown comes. -/
theorem test_meets_input_change :
    let on : Inputs := ⟨true, true, false, true, false, false, true, false⟩
    let off : Inputs := ⟨true, true, false, true, false, false, false, false⟩
    [(off, moving .prepare false false), (on, moving .actuate false true), (off, moving .settle true true)].map (fun p =>
      after (.inputSample p.1) (oneMore p.1 p.2) (fun t =>
        (decide (t.mc.accepted ≠ p.2.mc.accepted), t.fc.lockdown, t.rm.shift.map Shift.stage, t.rm.ptoa.cmd)))
      = [(true, false, some .actuate, true), (true, false, some .settle, false), (true, false, some .actuate, false)]
      ∧ work.ps.validated = true ∧ work.mc.inited = true ∧ work.mc.sampleTimer.isSome = true := by decide

/-- PTOR's confirm comes beside SPLIT at PUMP: PATH_BOTH fills the slot, or is lockdown. -/
theorem test_meets_path_both :
    let l : Inputs := ⟨true, true, true, false, true, true, false, false⟩
    [pumping, State.faulted pumping].map (fun s => after (.inputSample l) (oneMore l s) (fun t =>
        (decide (t.mc.accepted ≠ s.mc.accepted), t.rm.pathBoth, t.fc.critical.map Capture.cause, t.fc.lockdown)))
      = [(true, true, some .pathBoth, false), (true, true, some .pathBoth, true)]
      ∧ pumping.rm.pathBoth = false ∧ pumping.fc.lockdown = false ∧ pumping.fc.critical = none := by decide

/-- R46: the first sample after a reset finds SPLIT at PUMP and PTOR_ON set, or finds the part at ROAD. -/
theorem test_meets_path_both_first :
    let s : State := { State.reset with mc := { State.reset.mc with sampleTimer := some 0 } }
    s.mc.sampleTimer.isSome = true ∧ s.mc.inited = false ∧ s.rm.pathBoth = false ∧ s.fc.lockdown = false ∧ s.fc.critical = none
      ∧ s.mc.derived = false ∧ s.cp.resync = false
      ∧ [s, State.faulted s].map (fun s => after (.inputSample ⟨true, true, true, false, true, true, false, false⟩) s (fun t =>
          (t.rm.pathBoth, t.fc.critical.map Capture.cause, t.fc.lockdown)))
        = [(true, some .pathBoth, false), (true, some .pathBoth, true)]
      ∧ after (.inputSample parked) s (fun t => t.fc.critical) = none := by decide

/-- NEUTRAL goes while the path-both episode, or the park episode, is open and its condition stands. -/
theorem test_meets_episode_open :
    let both : State := { pumping with
      mc := { pumping.mc with deb := initDebouncers ⟨true, true, true, false, true, true, false, false⟩ }
      rm := { pumping.rm with pathBoth := true } }
    let unparked : State := { pumping with
      mc := { pumping.mc with parkEp := true, deb := initDebouncers ⟨false, true, true, false, true, false, false, false⟩ } }
    [(both, (⟨true, false, true, false, true, true, false, false⟩ : Inputs)),
        (unparked, ⟨false, false, true, false, true, false, false, false⟩)].map (fun p =>
      after (.inputSample p.2) (oneMore p.2 p.1) (fun t => (decide (t.mc.accepted ≠ p.1.mc.accepted), decide (t.fc = p.1.fc))))
      = [(true, true), (true, true)]
      ∧ both.mc.sp = true ∧ both.rm.shift = none ∧ both.cp.resync = false := by decide

/-- PARK goes while the part pumps from a standstill. -/
theorem test_meets_park :
    let l : Inputs := ⟨false, true, true, false, true, false, false, false⟩
    [pumping, State.faulted pumping].map (fun s => after (.inputSample l) (oneMore l s) (fun t =>
        (decide (t.mc.accepted ≠ s.mc.accepted), t.mc.accepted.park, t.fc.critical.isSome, t.fc.lockdown)))
      = [(true, false, true, false), (true, false, true, true)]
      ∧ pumping.mc.derived = true ∧ pumping.ps.validated = true ∧ pumping.mc.sp = true ∧ pumping.mc.parkEp = false
      ∧ pumping.rm.shift = none ∧ pumping.cp.resync = false := by decide

/-- A road ring sum of 3, over the tolerance of 2, at a publication while the part pumps from a standstill. -/
theorem test_meets_motion :
    let s (n : Nat) : State := { pumping with pcu := { pumping.pcu with road := ⟨n, [], 0⟩ } }
    (s 3).pcu.windowTimer.isSome = true ∧ (s 3).mc.derived = true ∧ (s 3).mc.sp = true ∧ (s 3).mc.accepted.park = true
      ∧ (s 3).mc.splitPos = .engaged ∧ (s 3).rm.split.conf = .engaged ∧ (s 3).rm.shift = none ∧ (s 3).rm.queue = []
      ∧ (s 3).cp.resync = false ∧ (s 3).fc.lockdown = false ∧ (s 3).mc.motionEp = false
      ∧ (s 3).par.motionTolerance < ((3 :: (s 3).pcu.road.ring).take 8).sum
      ∧ ((2 :: (s 2).pcu.road.ring).take 8).sum ≤ (s 2).par.motionTolerance
      ∧ (State.faulted (s 3)).fc.critical.isSome = true ∧ (State.faulted (s 3)).fc.lockdown = false := by decide

/-- A cut take-off under a running stillness timer. -/
def cutState : State := State.onRes .ptoa (fun x => { x with cut := true })
  { rolling with mc := { rolling.mc with stillTimer := some 0 } }

theorem test_meets_stillness :
    cutState.mc.stillTimer.isSome = true ∧ cutState.mc.still = false ∧ cutState.rm.ptoa.cut = true
      ∧ cutState.mc.stillOvertaken = false ∧ work.mc.stillTimer = none ∧ work.mc.stillOvertaken = false
      ∧ ({ work with mc := { work.mc with stillTimer := some 3 } } : State).mc.still = true := by decide

/-- R38: PTOA's ENGAGE waits for stillness, with the engine at the engage limit and one above it. -/
def awaitsStillness (rpm : Nat) : State := State.shifting ⟨.ptoa, .engage, .prepare, 5⟩ { rolling with
  mc := { rolling.mc with mode := .shifting, parkhold := true, range := .neutralOnly, stillTimer := some 0 }
  pcu := { rolling.pcu with eng := ⟨0, [], rpm⟩ } }

theorem test_meets_stillness_prepare :
    [1000, 1001].map (fun n => after .stillnessExpiry (awaitsStillness n) (fun t => (t.fc.lockdown, t.rm.shift.map Shift.stage)))
      = [(false, some .actuate), (false, some .prepare)]
      ∧ (awaitsStillness 1000).mc.stillOvertaken = false ∧ (awaitsStillness 1000).mc.still = false
      ∧ (awaitsStillness 1000).cp.resync = false ∧ (awaitsStillness 1000).mc.accepted.neutral = true := by decide

/-- R38: the engine has slowed to 1000 rpm when the speeds are published. -/
theorem test_meets_window_prepare :
    let s : State := { awaitsStillness 1200 with
      mc := { (awaitsStillness 1200).mc with still := true }
      pcu := { (awaitsStillness 1200).pcu with engineStopped := false, eng := ⟨800, [], 1200⟩ } }
    s.pcu.windowTimer.isSome = true ∧ s.mc.accepted.neutral = true ∧ s.mc.still = true ∧ s.cp.resync = false
      ∧ s.input .ptoa = .disengaged
      ∧ after .speedWindow s (fun t => (t.pcu.eng.published, t.fc.lockdown, t.rm.shift.map Shift.stage))
        = (1000, false, some .actuate) := by decide

/-- R38: the ENGAGE and the DISENGAGE of SPLIT and the ENGAGE of PTOR wait in PREPARE when 1000 rpm, or 1001, is published. -/
theorem test_meets_window_prepare_paths :
    let running (w : Nat) (s : State) : State := { s with pcu := { work.pcu with engineStopped := false, eng := ⟨w, [], 1200⟩ } }
    let engage : State := { work with mc := { work.mc with mode := .shifting, parkhold := true, range := .neutralOnly } }
    [800, 801].map (fun w => [State.shifting ⟨.split, .engage, .prepare, 5⟩ engage, State.shifting ⟨.ptor, .engage, .prepare, 5⟩ engage,
        unsplitting].map (fun s => after .speedWindow (running w s) (fun t =>
          (t.pcu.eng.published, t.fc.lockdown, t.rm.shift.map Shift.stage))))
      = [List.replicate 3 (1000, false, some .actuate), List.replicate 3 (1001, false, some .prepare)] := by decide

/-- A pulse that finds its timer run out overtakes the expiry (R63, R97). -/
theorem test_meets_overtaken :
    (stateOf work (exec (.pulseArrival .road) cutState)).mc.stillOvertaken = true
      ∧ (stateOf work (exec (.pulseArrival .eng) { work with pcu := { work.pcu with stopTimer := some 0 } })).pcu.stopOvertaken
        = true ∧ work.pcu.stopOvertaken = false := by decide

/-- The split position unknown in the midst of pumping, its watch at the end of its time. -/
def splitUnknown : State := { governed with
  mc := { governed.mc with
    deb := initDebouncers ⟨true, true, true, false, false, false, false, false⟩, splitTimer := some 0
    mode := .indeterminate, range := .neutralOnly, sp := false }
  rm := { governed.rm with split := { governed.rm.split with conf := .unknown }, pumpPath := false } }

theorem test_meets_splitLost :
    AtRest splitUnknown ∧ splitUnknown.mc.splitTimer.isSome = true ∧ splitUnknown.fc.critical = none
      ∧ splitUnknown.fc.lockdown = false ∧ splitUnknown.splitCondition = true ∧ splitUnknown.mc.derived = true
      ∧ splitUnknown.pg.state ≠ .off := by decide

theorem test_meets_lockdown_entry :
    LockoutsAgree (State.faulted splitUnknown) ∧ LockdownHolds (State.faulted splitUnknown)
      ∧ (State.faulted splitUnknown).mc.splitTimer.isSome = true ∧ (State.faulted splitUnknown).fc.critical.isSome = true
      ∧ (State.faulted splitUnknown).fc.lockdown = false ∧ (State.faulted splitUnknown).cp.resync = false
      ∧ (State.locked work).fc.lockdown = true := by decide

/-- R185: a RESYNC waits on PTOA's ENGAGE in ACTUATE when SPLIT_LOST comes: it waits on, or lockdown completes it. -/
theorem test_meets_resync_lockdown :
    let s := State.resyncs (State.shifting ⟨.ptoa, .engage, .actuate, 5⟩ splitUnknown)
    [s, State.faulted s].map (fun s => (decide (ResyncWaits s),
        after .splitWatchExpiry s (fun t => (t.fc.lockdown, t.cp.resync, t.cp.flags.resyncDone, t.rm.shift.map Shift.stage))))
      = [(true, false, true, false, some .actuate), (true, true, false, true, none)] := by decide

theorem test_meets_engineStop :
    work.pcu.stopTimer = none ∧ (PCU.mk SpeedChan.reset SpeedChan.reset SpeedChan.reset false (some 0) false none LevelChan.reset
      LevelChan.reset LevelChan.reset).stopTimer.isSome = true := by decide

theorem test_meets_window :
    work.pcu.windowTimer.isSome = true ∧ (PCU.reset LevelChan.reset LevelChan.reset LevelChan.reset).windowTimer = none := by
  decide

/-- A road speed of 56, above the cut-out speed of 50: 9 pulses under K 8000 give 50, 10 give 56. -/
theorem test_meets_cut_out :
    let s := { rolling with
      par := { rolling.par with roadPermittedB := false }, pcu := { rolling.pcu with road := ⟨10, [], 0⟩ } }
    s.pcu.windowTimer.isSome = true ∧ s.par.roadPermittedA = false ∧ s.par.roadPermittedB = false ∧ s.rm.ptoa.cut = false
      ∧ s.rm.ptob.cut = false ∧ s.mc.still = false
      ∧ s.par.cutoutSpeed < min 1500 (((s.pcu.road.window :: s.pcu.road.ring).take 8).sum * 45000 / s.par.roadPulses)
      ∧ min 1500 ([9].sum * 45000 / s.par.roadPulses) ≤ s.par.cutoutSpeed := by decide

/-- R44: PTOA's ENGAGE waits in PREPARE for its one holder when a road speed over the cut-out speed is published. -/
theorem test_meets_cut_cancels :
    let s := State.shifting ⟨.ptoa, .engage, .prepare, 5⟩ (State.onRes .ptoa (fun x => { x with holders := 1 })
      { rolling with pcu := { rolling.pcu with road := ⟨10, [], 0⟩ } })
    s.pcu.windowTimer.isSome = true ∧ s.par.roadPermittedA = false ∧ s.mc.still = false ∧ (s.res .ptoa).cut = false
      ∧ s.par.cutoutSpeed < min 1500 (((s.pcu.road.window :: s.pcu.road.ring).take 8).sum * 45000 / s.par.roadPulses)
      ∧ s.rm.entry .ptoa = none ∧ 0 < (s.res .ptoa).holders ∧ (s.res .ptoa).orphan = false ∧ (s.res .ptoa).cmd = false
      ∧ s.fc.lockdown = false := by decide

theorem test_meets_grace :
    work.mc.graceTimer = none
      ∧ ({ work with mc := { work.mc with graceTimer := some 0 } } : State).mc.graceTimer.isSome = true
      ∧ work.cp.resync = false ∧ work.fc.standard = none := by decide

/-- Roll pumping at 33.7 km/h, over the limit of 32.0; at 28.9, below it by the band of 3.0; and at 29.5, in the band. -/
theorem test_meets_overspeed :
    let s (n : Nat) (ep : Bool) : State := { rollGoverned with
      mc := { rollGoverned.mc with overEp := ep }
      pcu := { rollGoverned.pcu with road := ⟨n, [], 0⟩ } }
    (s 60 false).pcu.windowTimer.isSome = true ∧ (s 60 false).mc.derived = true ∧ (s 60 false).mc.still = false
      ∧ [60, 51, 53].map (fun n => min 1500 (((n :: ([] : List Nat)).take 8).sum * 45000 / (s n true).par.roadPulses))
        = [337, 286, 298]
      ∧ (s 60 false).par.rollLimit < 337 ∧ 286 + (s 51 true).par.overspeedBand ≤ (s 51 true).par.rollLimit
      ∧ (s 53 true).par.rollLimit < 298 + (s 53 true).par.overspeedBand
      ∧ after .speedWindow (s 60 false) (fun t => (t.mc.mode, t.mc.graceTimer)) = (.roll, some 1500)
      ∧ after .speedWindow (s 60 true) (fun t => t.mc.overEp) = true
      ∧ after .speedWindow (s 51 true) (fun t => (t.mc.overEp, t.pg.cRoll)) = (false, 2200)
      ∧ after .speedWindow { s 60 false with rm := work.rm, mc := { work.mc with still := false } } (fun t => t.mc.mode) = .road := by decide

theorem test_meets_level :
    (watered 1 0).sys.resetActive = false ∧ ((watered 1 0).pcu.level .t0).phase = some ⟨false, false, false⟩
      ∧ ((watered 1 0).pcu.level .t0).configured = true ∧ ((watered 1 0).pcu.level .t1).configured = false
      ∧ ((watered 1 0).pcu.level .t0).count - 1 = 0 ∧ min 65535 (((watered 65534 0).pcu.level .t0).count + 1) = 65535
      ∧ (watered 1 0).sys.vmain = true ∧ ((watered 1 0).pcu.level .t0).state ≠ .fault
      ∧ ({ watered 1 0 with sys := { work.sys with vmain := false } } : State).sys.vmain = false := by decide

theorem test_meets_level_uncounted :
    let c := { channelAt 10 with xmode := .x1, phase := some ⟨true, false, false⟩ }
    c.phase = some ⟨true, false, false⟩ ∧ (false != true) = true ∧ (false && !true) = false := by decide

theorem test_meets_mark :
    let c := (watered 2 0).pcu.level .t0
    c.phase = some ⟨false, false, false⟩ ∧ c.configured = true ∧ 1 < c.count ∧ c.count < 65534 ∧ 1 < c.refCount
      ∧ c.refCount < 65534 ∧ c.state = .referenced ∧ c.driftLimit < max (c.count - c.refCount) (c.refCount - c.count) := by decide

/-- R103, R105: a mark alone ends the FAULT of a channel at a limit; beside an edge that brings the count to the limit it is taken
first or last. -/
theorem test_meets_mark_at_limit :
    let s (c : LevelChan) : State := { work with pcu := { work.pcu with l0 := c } }
    let c : LevelChan := { channelAt 65535 with state := .fault }
    after (.levelSample .t0 false false true false) (s c) (fun t => ((t.pcu.level .t0).state, (t.pcu.level .t0).count))
        = (.referenced, 5000)
      ∧ [false, true].map (fun m => after (.levelSample .t0 true false true m) (s { channelAt 65534 with refCount := 65534 })
          (fun t => ((t.pcu.level .t0).state, (t.pcu.level .t0).count, t.fc.standard.map Capture.cause)))
        = [(.referenced, 65534, some .levelSensor), (.fault, 65535, some .levelSensor)] := by decide

/-- A warm reset with VMAIN off, in which the level channels go on. -/
def unpowered : State := stateOf (watered 2 0) (exec (.warmReset .supplyOff) (watered 2 0))

/-- R107, R108: an illegal transition beside a mark, the mark first: with VMAIN off the drift and the episode are kept; with VMAIN on
both are reported. -/
theorem test_meets_mark_illegal :
    unpowered.sys.resetActive = true ∧ unpowered.sys.vmain = false ∧ unpowered.cp.resetKind ≠ .cold
      ∧ unpowered.pcu.level .t0 = channelAt 2 ∧ (channelAt 2).phase = some ⟨false, false, false⟩
      ∧ after (.levelSample .t0 true true true true) unpowered (fun t =>
          ((t.pcu.level .t0).driftFlag, (t.pcu.level .t0).faultPending)) = (true, true)
      ∧ after (.levelSample .t0 true true true true) (watered 2 0) (fun t => (t.fc.standard.map Capture.cause, t.fc.also))
        = (some .levelDrift, [.levelSensor]) := by decide

theorem test_meets_pressure :
    let s := { work with pi := { work.pi with pdis := ⟨.valid, [], 2, 0, none⟩, pint := ⟨.noData, [], 2, 0, none⟩ } }
    s.pi.convTimer.isSome = true ∧ s.fc.standard = none ∧ (204 : Nat) < s.par.pdisLo ∧ s.par.pintHi < (3891 : Nat) := by decide

/-- R164: both pressure channels enter FAULT beside a filled standard slot. -/
theorem test_meets_pressure_slot_filled :
    let s : State := { work with
      pi := { work.pi with pdis := ⟨.valid, [], 2, 0, none⟩, pint := ⟨.noData, [], 2, 0, none⟩ }
      fc := { work.fc with standard := some (work.snapshot .ptoLost none) } }
    s.pi.convTimer.isSome = true ∧ s.fc.standard.isSome = true
      ∧ after (.pressureConversion 204 3891) s (fun t => t.fc.also) = [.pdisSensor, .pintSensor] := by decide

/-- R125: an update that leaves OFF at 1150 rpm with 900 kPa against 1000 kPa steps in PRESSURE. -/
theorem test_meets_governor_leaves_off :
    let s : State := { governed with
      pg := { work.pg with thrMode := .off }, pcu := { governed.pcu with eng := ⟨0, [], 1150⟩ }
      pi := { governed.pi with pdis := ⟨.valid, [], 0, 0, some 900⟩ } }
    s.pg.state = .off ∧ after .governorUpdate s (fun t => (t.pg.state, t.pg.lastStep, t.pg.demand))
      = (.pressure, max (-(s.par.maxStep : Int)) (min ((100 * (s.par.gain : Int)).tdiv 64) s.par.maxStep),
          min (1150 + max (-(s.par.maxStep : Int)) (min ((100 * (s.par.gain : Int)).tdiv 64) s.par.maxStep)) 1200) := by decide

theorem test_meets_governor_off :
    work.pg.updateTimer.isSome = true ∧ (work.pg.state = .off → work.pg.governing = none) ∧ work.rm.pumpPath = false := by decide

theorem test_meets_governor_step :
    governed.pg.updateTimer.isSome = true ∧ governed.pg.state ≠ .off ∧ governed.ps.validity = .valid
      ∧ governed.rm.pumpPath = true ∧ governed.fc.critical = none ∧ governed.fc.lockdown = false ∧ governed.mc.mode = .pump
      ∧ governed.mc.accepted.pumprange = true
      ∧ governed.dt.governingDemand = some (⟨0, 3⟩, served (.pumpStat .pressure 1000) .active)
      ∧ governed.pi.pdis.state = .valid ∧ governed.pi.pdis.published = some 1000 ∧ (1000 : Int) ≤ governed.par.reliefLimit
      ∧ governed.pi.pint.state = .valid ∧ governed.pi.pint.published = some 46 := by decide

/-- R122: PINT of 46 kPa, like 20 and 49, lies between the floor and the recovery; 19 is below the floor, 50 at the recovery. -/
theorem test_meets_governor_cavitation :
    (19 : Int) < governed.par.intakeFloor ∧ governed.par.intakeFloor + governed.par.recoveryBand ≤ (50 : Int)
      ∧ (∀ p ∈ [(20 : Int), 46, 49], governed.par.intakeFloor ≤ p ∧ p < governed.par.intakeFloor + governed.par.recoveryBand)
      ∧ [19, 20, 49, 50].map (fun p => after .governorUpdate { governed with
          pi := { governed.pi with pint := ⟨.valid, [], 0, 0, some p⟩ }, pg := { governed.pg with cCav := 1500 } } (fun t => t.pg.cCav))
        = [900, 1500, 1500, 1525] := by decide

/-- R124's four cases: T0 EMPTY under a held record; RESERVE under an ACTIVE one from TANK; no ACTIVE record; an ACTIVE one
from INTAKE. -/
theorem test_meets_supply :
    let t0 (v : VolState) : Tank := { tankT0 300 (some v) with state := .vol v }
    let s (v : VolState) (r : Rec) : State := State.holding 5 r { governed with tk := { governed.tk with t0 := t0 v } }
    let held : Rec := { served (.discharge 7 .tank 100 none) .held with reasons := { Reasons.none with tankEmpty := true } }
    [s .empty held, s .reserve (served (.discharge 7 .tank 100 none) .active), governed,
        s .reserve (served (.discharge 7 .intake 100 none) .active)].map (fun s =>
      after .governorUpdate s (fun t => (t.pg.supplyCase, t.pg.cSupply)))
      = [(1, 700), (2, 1450), (3, 1200), (4, 2200)] := by decide

/-- The states outside OFF: no governing demand, SPEED, and PRESSURE without and with a VALID PDIS; an update that leaves OFF
with the engine at 1150 rpm starts from there; 1701 kPa is over the relief limit. -/
theorem test_meets_governor_states :
    let record (d : Demand) : State := { governed with dt := (governed.dt.setSlot 0 ⟨3, .occupied (served d .active)⟩) }
    let idle : State := { governed with dt := { governed.dt with governing := [] } }
    let dark : State := { governed with pi := { governed.pi with pdis := ⟨.fault, [], 0, 0, some 900⟩ } }
    let starts : State := { governed with
      pg := { work.pg with thrMode := .off }, pcu := { governed.pcu with eng := ⟨0, [], 1150⟩ } }
    let high : State := { governed with pi := { governed.pi with pdis := ⟨.valid, [], 0, 0, some 1701⟩ } }
    [idle, record (.pumpStat .speed 1500), dark, starts, high].map (fun s => after .governorUpdate s (fun t =>
        (t.pg.state, t.pg.lastStep, t.pg.demand, t.fc.standard.map Capture.cause)))
      = [(.idleHold, -80, 920, none), (.speed, 80, 1080, none), (.frozen, 0, 1000, none), (.pressure, 0, 1150, none),
        (.pressure, -160, 840, some .overpressure)]
      ∧ starts.pg.state = .off ∧ governed.pg.relief = false := by decide

theorem test_meets_strapping :
    [((0 : Nat), (0 : Nat)), (200, 900), (900, 6200)].Pairwise (fun p q => p.1 < q.1 ∧ p.2 ≤ q.2)
      ∧ [((0 : Nat), (0 : Nat)), (200, 900), (900, 6200)].getLast? = some (900, 6200)
      ∧ [((0 : Nat), (0 : Nat)), (200, 900), (900, 6200)][1]? = some (200, 900)
      ∧ [((0 : Nat), (0 : Nat)), (200, 900), (900, 6200)][1 + 1]? = some (900, 6200) := by decide

theorem test_meets_tank_update :
    let s := watered 7312 7600
    s.tk.updateTimer.isSome = true ∧ s.cp.resync = false ∧ (s.tk.get .t0).present = true ∧ (s.tk.get .t0).cfg.isSome = true
      ∧ (s.pcu.level .t0).configured = true ∧ (s.pcu.level .t0).state = .referenced
      ∧ ((s.tk.get .t0).seed || (s.pcu.level .t0).rerefPending) = false ∧ (s.tk.get .t0).filtered = some 7600 := by decide

theorem test_meets_tank_update_states :
    let c := channelAt 112
    ({ c with state := .fault } : LevelChan).state = .fault ∧ ({ c with state := .unreferenced } : LevelChan).state = .unreferenced
      ∧ ({ c with rerefPending := true } : LevelChan).rerefPending = true ∧ TK.reset.updateTimer = none := by decide

/-- R144: T0 leaves EMPTY at an update beside a record held for it alone. -/
theorem test_meets_tank_update_leaves_empty :
    let s : State := State.holding 1 { served (.discharge 7 .tank 100 none) .held with
        reasons := { Reasons.none with tankEmpty := true } } { watered 7312 7600 with
      tk := { (watered 7312 7600).tk with t0 := { tankT0 7600 (some .empty) with state := .vol .empty } } }
    s.tk.updateTimer.isSome = true ∧ s.cp.resync = false ∧ (s.tk.get .t0).present = true ∧ (s.tk.get .t0).cfg.isSome = true
      ∧ after .tankUpdate s (fun t => (t.tk.t0.state, (t.dt.slot 1).record.map Rec.state)) = (.vol .normal, some .active) := by
  decide +kernel

/-- T1 falls EMPTY at an update beside a foam part that draws from it. -/
theorem test_meets_tank_update_foam :
    let s : State := State.holding 1 (served (.discharge 7 .intake 100 (some ⟨.t1, 30, .clear⟩)) .held) { drifted false with
      tk := { work.tk with t1 := tankT0 301 (some .reserve) }, pcu := { work.pcu with l1 := channelAt 112 } }
    s.tk.updateTimer.isSome = true ∧ s.cp.resync = false ∧ (s.tk.get .t1).present = true ∧ (s.tk.get .t1).state ≠ .vol .empty
      ∧ after .tankUpdate s (fun t => (t.tk.t1.state, (t.dt.slot 1).record.bind (fun r => r.demand.foam.map FoamPart.susp)))
        = (.vol .empty, some .foamEmpty) := by decide

/-- Preset 7 of two templates known. -/
def known : State := { work with pe := { work.pe with counts := List.replicate 7 (some 0) ++ [some 24] } }

theorem test_meets_apply :
    Serving known ∧ known.dt.slots.length = 24 ∧ known.ps.op = none ∧ known.ps.validity = .valid ∧ known.fc.lockdown = false
      ∧ known.pe.apply = none ∧ known.pe.counts[0]? = some (some 0) ∧ known.pe.counts[7]? = some (some 24)
      ∧ 24 ≤ ((List.range 24).filter (fun i => decide ((known.dt.slot i).cond = .free))).length
      ∧ ((List.range 24).filter (fun i => decide (((State.holding 0 (served (.aux .a) .queued) known).dt.slot i).cond = .free))).length
        < 24 := by decide

/-- An apply of preset 0 from station 2 with its slots reserved and this read index of two. -/
def applying (n : Nat) : State := { work with
  dt := ⟨⟨3, .reserved⟩ :: ⟨0, .reserved⟩ :: List.replicate 22 Slot.reset, []⟩
  pe := { work.pe with apply := some ⟨0, 2, 2, [0, 1], n, 1, []⟩ }
  ps := { work.ps with groups := work.ps.groups.set 4 ⟨List.replicate 37 0, 0, false⟩ } }

theorem test_meets_template_good :
    AtRest (applying 0) ∧ (applying 0).cp.resync = false
      ∧ templateGood (templateAt ((applying 0).ps.group 4).data 0) = true ∧ 0 + 1 < 2
      ∧ templateGood (templateAt ((applying 1).ps.group 4).data 1) = true ∧ 2 = 1 + 1
      ∧ [0, 1].Nodup ∧ (∀ i ∈ [0, 1], i < (applying 1).dt.slots.length ∧ ((applying 1).dt.slot i).cond = .reserved) := by decide

theorem test_meets_template_bad :
    templateGood (templateAt (0 :: 1 :: List.replicate 35 0) 0) = false := by decide

theorem test_meets_ack_standard :
    let s := work.setFc { work.fc with standard := some (work.snapshot .pdisSensor none) }
    Serving s ∧ AtRest s ∧ s.fc.lockdown = false ∧ s.fc.standard = some (work.snapshot .pdisSensor none)
      ∧ work.fc.standard = none ∧ Serving (State.locked work) := by decide

theorem test_meets_ack_critical :
    Serving (State.faulted work) ∧ AtRest (State.faulted work) ∧ (State.faulted work).fc.lockdown = false
      ∧ (State.faulted work).fc.critical = some (work.snapshot .pathBoth none) := by decide

theorem test_meets_ack_critical_empty : Serving work ∧ work.fc.lockdown = false ∧ work.fc.critical = none := by decide

theorem test_meets_ack_critical_refill :
    let s := State.holding 0 { served (.pumpStat .speed 900) .held with reasons := { Reasons.none with critical := true } }
      { State.faulted pumping with pcu := { pumping.pcu with road := ⟨0, [3], 0⟩ } }
    Serving s ∧ AtRest s ∧ s.stationary = true ∧ s.par.motionTolerance < s.pcu.road.ring.sum := by decide

theorem test_meets_reads :
    Serving work ∧ Serving State.reset ∧ State.reset.ps.validated = false ∧ work.ps.validated = true ∧ work.ps.op = none
      ∧ work.ps.groups[11]?.isSome = true ∧ work.ps.conds[11]? = some .good := by decide

/-- A BLANK store ready to be written. -/
def blank : State := { work with ps := { PS.delivered with validated := true, validity := .blank } }

theorem test_meets_write_fits :
    Serving blank ∧ blank.fc.lockdown = false ∧ blank.ps.validated = true ∧ blank.ps.op = none ∧ blank.ps.locked = false
      ∧ blank.pe.apply = none ∧ blank.dt.records = [] ∧ blank.rm.shift = none ∧ (28 : Nat) ≤ 28 ∧ 0 + 28 ≤ 37
      ∧ (List.replicate 28 (0 : Word)).length < 37 :=
  by decide

theorem test_meets_write_drive_free : ∀ r, (blank.res r).cmd = false := fun r => by cases r <;> rfl

theorem test_meets_write_second_piece :
    let s := { blank with ps := { blank.ps with staging := some ⟨11, List.replicate 28 0⟩ } }
    s.ps.staging = some ⟨11, List.replicate 28 0⟩ ∧ (List.replicate 28 (0 : Word)).length = 28 ∧ 28 + 9 ≤ 37
      ∧ (List.replicate 28 (0 : Word) ++ List.replicate 9 0).length = 37 := by decide

theorem test_meets_write_group_passes : firstFailure blank.ps.limits 11 (List.replicate 28 0 ++ List.replicate 9 0) = none := by decide

theorem test_meets_write_group_fails :
    firstFailure blank.ps.limits 11 (List.replicate 28 0 ++ (List.replicate 8 0 ++ [1])) = some 36 := by decide

theorem test_meets_write_refused :
    (State.locked work).fc.lockdown = true ∧ State.reset.ps.validated = false ∧ writing.ps.op.isSome = true
      ∧ ({ blank with ps := { blank.ps with locked := true } } : State).ps.locked = true
      ∧ (applying 0).pe.apply.isSome = true ∧ lastHolder.dt.records ≠ [] ∧ waiting.rm.shift.isSome = true := by decide

theorem test_meets_write_in_use : ∃ r, (pumping.res r).cmd = true := ⟨.split, rfl⟩

theorem test_meets_erase :
    blank.ps.validity = .blank ∧ work.ps.validity ≠ .blank ∧ work.pe.apply = none ∧ work.dt.records = []
      ∧ work.rm.shift = none ∧ work.ps.op = none := by decide

/-- A part with an empty table and nothing in flight meets the store's shape during a write of one of the twelve groups. -/
theorem storeShape_writing (s : State) {g n : Nat} {data : List Word} {check : Word} (h : s.ps.op = some (.write g data check n))
    (hg : g < 12) (groups : s.ps.groups.length = 12) (conds : s.ps.conds.length = 12) (dt : s.dt.records = [])
    (pe : s.pe.apply = none) (cp : s.cp.resync = false) : StoreShape s :=
  ⟨groups, conds, fun _ _ _ _ h' => by cases h.symm.trans h'; exact hg, fun _ => ⟨dt, pe, cp⟩⟩

theorem test_meets_store_shape_write : StoreShape writing :=
  storeShape_writing writing rfl (by decide) (by decide) (by decide) (by decide) rfl rfl

/-- The store erasing. -/
def erasing : State := { work with ps := { work.ps with op := some (.erase 0) } }

theorem test_meets_store_shape_erase : StoreShape erasing :=
  ⟨by decide, by decide, fun _ _ _ _ h => (nomatch (h : some (StoreOp.erase 0) = _)), fun _ => ⟨by decide, rfl, rfl⟩⟩

theorem test_meets_store_complete :
    writing.ps.op = some (.write 4 [] 0 60) ∧ writing.cp.resync = false
      ∧ erasing.ps.op = some (.erase 0) ∧ AtRest erasing := by decide

/-- A part at rest with a write of a group in progress and the rest of the profile as given. -/
def storing (g : Nat) (v : Validity) (conds : List GroupCond) : State :=
  { work with ps := { work.ps with op := some (.write g [] 0 0), validity := v, conds := conds } }

/-- Eleven GOOD groups and a BAD group 11. -/
def lastBad : List GroupCond := List.replicate 11 .good ++ [.bad]

/-- The write of a group in a VALID profile of a part at rest. -/
def StoresValid (g : Nat) (s : State) : Prop :=
  AtRest s ∧ s.cp.resync = false ∧ s.ps.op = some (.write g [] 0 0) ∧ s.ps.validity = .valid
    ∧ (s.ps.conds.set g .good).all (· == .good) = true

theorem test_meets_store_loads : ∀ g ∈ [0, 2, 5], StoresValid g (storing g .valid (List.replicate 12 .good)) := by
  unfold StoresValid
  decide

theorem test_meets_store_shape_storing :
    ∀ g ∈ [0, 2, 5, 11], ∀ v, StoreShape (storing g v (List.replicate 12 .good)) ∧ StoreShape (storing g v lastBad) := by
  intro g hg v
  have hg : g < 12 := by simp at hg; omega
  have empty : work.dt.records = [] := by decide
  exact ⟨storeShape_writing _ rfl hg rfl rfl empty rfl rfl, storeShape_writing _ rfl hg rfl rfl empty rfl rfl⟩

theorem test_meets_store_makes_valid :
    AtRest (storing 11 .invalid lastBad) ∧ (storing 11 .invalid lastBad).ps.validity ≠ .valid
      ∧ (lastBad.set 11 .good).all (· == .good) = true := by decide

theorem test_meets_store_stays_invalid :
    AtRest (storing 0 .invalid lastBad) ∧ (lastBad.set 0 .good).all (· == .good) = false := by decide

/-- R130: a write of group 0 completes in ROLL beside a governor that is not OFF. -/
theorem test_meets_store_in_roll :
    let s : State := { rollPumping with ps := { rollPumping.ps with op := some (.write 0 [] 0 0) } }
    StoreShape s ∧ AtRest s ∧ s.cp.resync = false ∧ s.mc.mode = .roll ∧ s.ps.validity = .valid
      ∧ (s.ps.conds.set 0 .good).all (· == .good) = true :=
  ⟨storeShape_writing _ rfl (by decide) (by rfl) (by rfl) (by decide) rfl rfl, by decide⟩

theorem test_meets_reset_overlap :
    (stateOf work (exec (.warmReset .pin) work)).sys.resetActive = true
      ∧ (stateOf work (exec (.warmReset .pin) work)).cp.resetKind = .pin ∧ work.sys.resetActive = false
      ∧ work.ps.op = none := by decide

theorem test_meets_output_lines :
    work.sys.vmain = true ∧ (stateOf work (exec (.warmReset .supplyOff) work)).sys.vmain = false
      ∧ (stateOf work (exec (.warmReset .lowSupply) work)).sys.vmain = true := by decide

theorem test_meets_validation :
    let s := stateOf work (exec (.inputSample ⟨true, true, false, false, true, true, true, false⟩) State.reset)
    s.ps.validationTimer.isSome = true ∧ s.cp.resync = false ∧ s.fc.standard = none ∧ s.fc.lockdown = false
      ∧ work.ps.validationTimer = none := by decide

theorem test_meets_validation_levels :
    (∀ i, (State.reset.pcu.level i).configured = false) ∧ (∀ i, (State.reset.pcu.level i).driftFlag = false) :=
  ⟨fun i => by cases i <;> rfl, fun i => by cases i <;> rfl⟩

/-- R108: after a reset L0 stands in FAULT with its drift flag set and L1 with a fault pending, under a BLANK profile. -/
theorem test_meets_validation_reports :
    let s : State := { State.reset with
      mc := { State.reset.mc with inited := true, deb := initDebouncers parked }
      ps := { State.reset.ps with validationTimer := some 0 }
      pcu := { State.reset.pcu with
        l0 := { channelAt 7 with state := .fault, driftFlag := true }, l1 := { channelAt 7 with faultPending := true } } }
    s.ps.validationTimer.isSome = true ∧ s.cp.resync = false ∧ s.fc.standard = none
      ∧ after .validationCompletion s (fun t => (t.ps.validity, t.fc.standard.map Capture.cause, t.fc.also))
        = (.blank, some .levelSensor, [.levelDrift, .levelSensor]) := by decide +kernel

theorem test_meets_outputs :
    NeverBothDrives splitUnknown ∧ LockoutsAgree splitUnknown ∧ AttnAgrees splitUnknown
      ∧ step splitUnknown = .next (tick splitUnknown) := ⟨by decide, by decide, by decide, rfl⟩

theorem test_meets_mode : ModeAgrees governed ∧ governed.mc.derived = true := by decide

/-- One state in each mode. -/
theorem test_meets_mode_each :
    ∀ p ∈ [({ State.locked work with mc := { work.mc with mode := .lockdown } }, Mode.lockdown), (splitUnknown, .indeterminate),
        (waiting, .shifting), (governed, .pump), (rollPumping, .roll), (work, .road)],
      p.1.mc.derived = true ∧ p.1.mc.mode = p.2 ∧ ModeAgrees p.1 := by decide

theorem test_meets_lockdown : LockdownHolds (State.locked work) ∧ (State.locked work).fc.lockdown = true := by decide

/-- A table of one PUMP_STAT record and one DISCHARGE record. -/
def twoRecords : State := { work with
  dt := ⟨⟨15, .occupied (served (.pumpStat .speed 900) .queued)⟩
    :: ⟨0, .occupied (served (.discharge 7 .intake 100 none) .held)⟩ :: List.replicate 22 Slot.reset, []⟩ }

theorem twoRecords_later (i : Nat) : (twoRecords.dt.slot (i + 2)).record = none := by
  have h : twoRecords.dt.slot (i + 2) = (List.replicate 22 Slot.reset).getD i Slot.reset := rfl
  rw [h, List.getD_eq_getElem?_getD, List.getElem?_replicate]
  split <;> rfl

theorem test_meets_table : TableShape twoRecords ∧ OnePumpKind twoRecords ∧ OutletsDiffer twoRecords := by
  refine ⟨by decide, ?_, ?_⟩
  · rintro ⟨-, r, hr, hk, -⟩
    revert r
    decide
  · intro i j r q o hij hi hj _ _ hr hq
    match i, j with
    | 0, _ => simp [twoRecords, DT.slot, Slot.record, served] at hi; simp [← hi] at hr
    | 1, 0 => simp [twoRecords, DT.slot, Slot.record, served] at hj; simp [← hj] at hq
    | 1, 1 => exact hij rfl
    | 1, k + 2 => simp [twoRecords_later] at hj
    | k + 2, _ => simp [twoRecords_later] at hi

end Sys2Proof.Tests
end

section
/-! SUPPORT. How the Resource Manager's records are read and written, and what its shared operations do, said once: the equations
by case that the statements about shifts are proved from. -/
namespace Sys2Proof.Machine

/-! ## Resource records (R27) -/

section
variable (s : State) (r q : Res) (x : ResRec)

@[simp] theorem setRes_sys : (s.setRes r x).sys = s.sys := rfl
@[simp] theorem setRes_par : (s.setRes r x).par = s.par := rfl
@[simp] theorem setRes_cp : (s.setRes r x).cp = s.cp := rfl
@[simp] theorem setRes_dt : (s.setRes r x).dt = s.dt := rfl
@[simp] theorem setRes_mc : (s.setRes r x).mc = s.mc := rfl
@[simp] theorem setRes_pcu : (s.setRes r x).pcu = s.pcu := rfl
@[simp] theorem setRes_pi : (s.setRes r x).pi = s.pi := rfl
@[simp] theorem setRes_pg : (s.setRes r x).pg = s.pg := rfl
@[simp] theorem setRes_tk : (s.setRes r x).tk = s.tk := rfl
@[simp] theorem setRes_pe : (s.setRes r x).pe = s.pe := rfl
@[simp] theorem setRes_fc : (s.setRes r x).fc = s.fc := rfl
@[simp] theorem setRes_ps : (s.setRes r x).ps = s.ps := rfl
@[simp] theorem setRes_pending : (s.setRes r x).pending = s.pending := rfl

@[simp] theorem setRes_stuck : (s.setRes r x).rm.stuck = s.rm.stuck := by cases r <;> rfl
@[simp] theorem setRes_queue : (s.setRes r x).rm.queue = s.rm.queue := by cases r <;> rfl
@[simp] theorem setRes_shift : (s.setRes r x).rm.shift = s.rm.shift := by cases r <;> rfl
@[simp] theorem setRes_closed : (s.setRes r x).rm.closed = s.rm.closed := by cases r <;> rfl
@[simp] theorem setRes_adoption : (s.setRes r x).rm.adoption = s.rm.adoption := by cases r <;> rfl
@[simp] theorem setRes_pumpPath : (s.setRes r x).rm.pumpPath = s.rm.pumpPath := by cases r <;> rfl
@[simp] theorem setRes_pathBoth : (s.setRes r x).rm.pathBoth = s.rm.pathBoth := by cases r <;> rfl
@[simp] theorem setRes_slipTimer : (s.setRes r x).rm.slipTimer = s.rm.slipTimer := by cases r <;> rfl
@[simp] theorem setRes_rearmTimer : (s.setRes r x).rm.rearmTimer = s.rm.rearmTimer := by cases r <;> rfl
@[simp] theorem setRes_slipArmed : (s.setRes r x).rm.slipArmed = s.rm.slipArmed := by cases r <;> rfl

@[simp] theorem setRes_res_same : (s.setRes r x).res r = x := by cases r <;> rfl

theorem setRes_res_other (h : q ≠ r) : (s.setRes r x).res q = s.res q := by
  cases r <;> cases q <;> first | rfl | exact absurd rfl h

theorem setRes_res : (s.setRes r x).res q = if q = r then x else s.res q := by
  split
  · subst q; exact setRes_res_same s r x
  · exact setRes_res_other s r q x ‹_›

/-- An update of the Resource Manager that moves none of the four records leaves every record. -/
theorem setRm_res {m : RM} (h : m.split = s.rm.split ∧ m.ptor = s.rm.ptor ∧ m.ptoa = s.rm.ptoa ∧ m.ptob = s.rm.ptob) :
    (s.setRm m).res q = s.res q := by
  obtain ⟨h1, h2, h3, h4⟩ := h
  cases q <;> simp [State.res, RM.get, *]

end

/-! ## The shift slot (R36) -/

/-- R36: the head entry has taken the slot in PREPARE; nothing is driven yet. -/
def slotTaken (e : Entry) (rest : List Entry) (s : State) : State :=
  let t := s.setRm { s.rm with
    queue := rest, shift := some ⟨e.res, e.op, .prepare, s.par.prepTimeout * 1000⟩, stuck := s.rm.stuck && e.res != .split }
  let t := splitTakesSlot e.res (t.setRes e.res { t.res e.res with driftTimer := none, driftArmed := true })
  if e.op = .engage then reportShiftStart e.res t else t

/-- R36: the head entry takes a free and open slot. -/
theorem startHead_takes {s : State} {e : Entry} {rest : List Entry} (hs : s.rm.shift = none) (hq : s.rm.queue = e :: rest)
    (hl : s.fc.lockdown = false) (hc : s.rm.closed = false) : startHead s = tryActuate (slotTaken e rest s) := by
  simp [startHead, hs, hq, hl, hc, slotTaken]

/-- R36, R55: nothing takes the slot while a shift is in flight, the slot is closed or nothing is queued. -/
theorem startHead_stands {s : State} (h : s.rm.shift.isSome = true ∨ s.rm.queue = [] ∨ s.rm.closed = true) :
    startHead s = s := by
  unfold startHead
  split
  · simp_all
  · rfl

/-- Either nothing takes the slot or the head entry does. -/
theorem startHead_cases (s : State) : startHead s = s ∨
    ∃ e rest, s.rm.shift = none ∧ s.rm.queue = e :: rest ∧ s.fc.lockdown = false ∧ s.rm.closed = false
      ∧ startHead s = tryActuate (slotTaken e rest s) := by
  cases hs : s.rm.shift with
  | some sh => exact .inl (startHead_stands (.inl (by simp [hs])))
  | none =>
    cases hq : s.rm.queue with
    | nil => exact .inl (startHead_stands (.inr (.inl hq)))
    | cons e rest =>
      cases hl : s.fc.lockdown with
      | true => exact .inl (startHead_lockdown hl)
      | false =>
        cases hc : s.rm.closed with
        | true => exact .inl (startHead_stands (.inr (.inr hc)))
        | false => exact .inr ⟨e, rest, rfl, rfl, rfl, rfl, startHead_takes hs hq hl hc⟩

end Sys2Proof.Machine
end

section
/-! SUPPORT. The output lines keep their promises (R37, R69, R180): one lemma per shared operation, up to the end of an event, and
one per command. -/
namespace Sys2Proof.Machine

/-- SHIFT and PTOR are never driven together, PARKHOLD and RANGE stand by the mode, ATTN by the flags and the mask. -/
def Safe (s : State) : Prop := NeverBothDrives s ∧ LockoutsAgree s ∧ AttnAgrees s

section
variable {s : State}

/-! ## Updates of one block -/

@[simp] theorem safe_setSys (x : Sys) : Safe (s.setSys x) ↔ Safe s := Iff.rfl
@[simp] theorem safe_setPar (x : Params) : Safe (s.setPar x) ↔ Safe s := Iff.rfl
@[simp] theorem safe_setDt (x : DT) : Safe (s.setDt x) ↔ Safe s := Iff.rfl
@[simp] theorem safe_setPcu (x : PCU) : Safe (s.setPcu x) ↔ Safe s := Iff.rfl
@[simp] theorem safe_setPi (x : PI) : Safe (s.setPi x) ↔ Safe s := Iff.rfl
@[simp] theorem safe_setPg (x : PG) : Safe (s.setPg x) ↔ Safe s := Iff.rfl
@[simp] theorem safe_setTk (x : TK) : Safe (s.setTk x) ↔ Safe s := Iff.rfl
@[simp] theorem safe_setPe (x : PE) : Safe (s.setPe x) ↔ Safe s := Iff.rfl
@[simp] theorem safe_setFc (x : FC) : Safe (s.setFc x) ↔ Safe s := Iff.rfl
@[simp] theorem safe_setPs (x : PS) : Safe (s.setPs x) ↔ Safe s := Iff.rfl
@[simp] theorem safe_setPending (x : List Instr) : Safe (s.setPending x) ↔ Safe s := Iff.rfl

/-- Of the Resource Manager only the two commands matter. -/
theorem Safe.setRm {m : RM} (hs : Safe s) (h : m.split.cmd = s.rm.split.cmd) (k : m.ptor.cmd = s.rm.ptor.cmd) :
    Safe (s.setRm m) := by
  simpa [Safe, LockoutsAgree, AttnAgrees, h, k] using hs

theorem Safe.setRes {r : Res} {x : ResRec} (hs : Safe s) (h : x.cmd = (s.res r).cmd) : Safe (s.setRes r x) := by
  cases r
  · exact hs.setRm h rfl
  · exact hs.setRm rfl h
  · exact hs.setRm rfl rfl
  · exact hs.setRm rfl rfl

/-- Of the Mode Controller only the mode and its two lines matter. -/
theorem Safe.setMc {m : MC} (hs : Safe s) (h : m.mode = s.mc.mode) (k : m.parkhold = s.mc.parkhold)
    (l : m.range = s.mc.range) : Safe (s.setMc m) := by
  simpa [Safe, LockoutsAgree, AttnAgrees, h, k, l] using hs

/-- Of the Command Port only the flags, the mask and ATTN matter. -/
theorem Safe.setCp {c : CP} (hs : Safe s) (h : c.flags = s.cp.flags) (k : c.mask = s.cp.mask) (l : c.attn = s.cp.attn) :
    Safe (s.setCp c) := by
  simpa [Safe, LockoutsAgree, AttnAgrees, h, k, l] using hs

theorem foldl_safe {α : Type} {f : State → α → State} (h : ∀ s a, Safe s → Safe (f s a)) (l : List α) :
    ∀ {s}, Safe s → Safe (l.foldl f s) := by
  induction l with
  | nil => exact id
  | cons a l ih => exact fun hs => ih (h _ a hs)

/-! ## Attention, governor, draws -/

/-- R180: ATTN is evaluated with every change of the flags and the mask. -/
theorem setAttention_safe (f m : AttSet) (h : Safe s) : Safe (setAttention f m s) := ⟨h.1, h.2.1, rfl⟩

theorem raiseAtt_safe (c : Att) (h : Safe s) : Safe (raiseAtt c s) := setAttention_safe _ _ h
theorem clearAtt_safe (t : AttSet) (h : Safe s) : Safe (clearAtt t s) := setAttention_safe _ _ h

theorem storeMarked_safe (l : List Slot) (h : Safe s) : Safe (storeMarked l s) := by
  unfold storeMarked; dsimp only; split
  · exact raiseAtt_safe _ h
  · exact h

theorem markChanged_safe (b : List Slot) (h : Safe s) : Safe (markChanged b s) := storeMarked_safe _ h
theorem markAll_safe (h : Safe s) : Safe (markAll s) := storeMarked_safe _ h

@[simp] theorem safe_govOff : Safe (govOff s) ↔ Safe s := by unfold govOff; split <;> rfl
@[simp] theorem safe_govListLost : Safe (govListLost s) ↔ Safe s := by unfold govListLost; split <;> rfl
@[simp] theorem safe_recomputeDraws : Safe (recomputeDraws s) ↔ Safe s := Iff.rfl

/-! ## Demand Table -/

@[simp] theorem safe_storeTable (t : DT) : Safe (storeTable t s) ↔ Safe s := by
  unfold storeTable tellGovernor; split
  · rw [safe_govListLost, safe_setDt]
  · rfl

@[simp] theorem safe_updateRecords (f : Rec → Rec) : Safe (updateRecords f s) ↔ Safe s := safe_storeTable _
@[simp] theorem safe_setReason (h : HoldReason) (on : Bool) (p : Rec → Bool) : Safe (setReason h on p s) ↔ Safe s :=
  safe_updateRecords _
@[simp] theorem safe_reportCut (r : Res) (b : Bool) : Safe (reportCut r b s) ↔ Safe s := safe_setReason _ _ _

@[simp] theorem safe_evaluateSuspensions : Safe (evaluateSuspensions s) ↔ Safe s := by
  unfold evaluateSuspensions; dsimp only; split <;> rfl

/-! ## Resource Manager -/

theorem checkPumpPath_safe (h : Safe s) : Safe (checkPumpPath s) := by
  have reported (v : Bool) : Safe (driveValves (reportPumpPath v (s.setRm { s.rm with pumpPath := v }))) :=
    (safe_setReason _ _ _).2 (h.setRm rfl rfl)
  unfold checkPumpPath; dsimp only
  split
  · exact h
  · split
    · exact reported _
    · exact safe_govOff.2 (reported _)

theorem takeConfirm_safe (r : Res) (h : Safe s) : Safe (takeConfirm r s) := by
  have taken : Safe (s.setRes r { s.res r with conf := s.input r }) := h.setRes rfl
  unfold takeConfirm; dsimp only
  repeat' split
  · exact h
  · exact taken.setRm rfl rfl
  · exact taken

theorem driftLapses_safe (r : Res) (h : Safe s) : Safe (driftLapses r s) := by
  unfold driftLapses; split
  · exact h.setRes rfl
  · exact h

theorem trySettle_safe (h : Safe s) : Safe (trySettle s) := by
  unfold trySettle
  repeat' split
  all_goals exact h

/-- R37: SHIFT is driven to PUMP only beside a PTOR commanded DISENGAGED, and PTOR to ENGAGED only beside a SHIFT commanded
ROAD. -/
theorem drive_safe {r : Res} {op : ShiftOp} (hp : s.preconditions r op = true) (h : Safe s) :
    Safe (s.setRes r { s.res r with cmd := op == .engage }) := by
  refine ⟨?_, h.2⟩
  have h1 : s.rm.split.cmd = true → s.rm.ptor.cmd = false := by simpa using h.1
  cases r <;> cases op <;>
    simp_all [State.preconditions, NeverBothDrives, State.setRes, State.res, RM.put, RM.get]

theorem tryActuate_safe (h : Safe s) : Safe (tryActuate s) := by
  unfold tryActuate; split
  · split
    · rename_i hs
      exact trySettle_safe ((drive_safe hs.2 h).setRm rfl rfl)
    · exact h
  · exact h

theorem splitTakesSlot_safe (r : Res) (h : Safe s) : Safe (splitTakesSlot r s) := by
  unfold splitTakesSlot; split
  · exact h.setMc rfl rfl rfl
  · exact h

theorem slotTaken_safe (e : Entry) (rest : List Entry) (h : Safe s) : Safe (slotTaken e rest s) := by
  have opened (m : RM) (hm : m.split.cmd = s.rm.split.cmd ∧ m.ptor.cmd = s.rm.ptor.cmd) :
      Safe (splitTakesSlot e.res ((s.setRm m).setRes e.res
        { (s.setRm m).res e.res with driftTimer := none, driftArmed := true })) :=
    splitTakesSlot_safe _ ((h.setRm hm.1 hm.2).setRes rfl)
  unfold slotTaken; dsimp only
  split
  · exact (safe_updateRecords _).2 (opened _ ⟨rfl, rfl⟩)
  · exact opened _ ⟨rfl, rfl⟩

theorem startHead_safe (h : Safe s) : Safe (startHead s) := by
  obtain e | ⟨e, rest, -, -, -, -, he⟩ := startHead_cases s
  · rwa [e]
  · rw [he]
    exact tryActuate_safe (slotTaken_safe e rest h)

theorem appendEntry_safe (r : Res) (op : ShiftOp) (h : Safe s) : Safe (appendEntry r op s) := by
  unfold appendEntry; split
  · exact h
  · exact startHead_safe (h.setRm rfl rfl)

theorem leaveSlot_safe (r : Res) (h : Safe s) : Safe (leaveSlot r s) := takeConfirm_safe r (h.setRm rfl rfl)

theorem reevaluate_safe (r : Res) (h : Safe s) : Safe (reevaluate r s) := by
  unfold reevaluate
  repeat' split
  all_goals first | exact h | exact appendEntry_safe _ _ h

theorem cancelShift_safe (r : Res) (h : Safe s) : Safe (cancelShift r s) :=
  startHead_safe (reevaluate_safe r (checkPumpPath_safe (leaveSlot_safe r h)))

theorem withdraw_safe (r : Res) (h : Safe s) : Safe (withdraw r s) := h.setRm rfl rfl

theorem becameWanted_safe (r : Res) (h : Safe s) : Safe (becameWanted r s) := by
  unfold becameWanted
  repeat' split
  all_goals first | exact h | exact withdraw_safe r h | exact cancelShift_safe r h | exact appendEntry_safe _ _ h

theorem stoppedWanted_safe (r : Res) (h : Safe s) : Safe (stoppedWanted r s) := by
  unfold stoppedWanted
  repeat' split
  all_goals first | exact h | exact withdraw_safe r h | exact cancelShift_safe r h | exact appendEntry_safe _ _ h

theorem holdersMore_safe (r : Res) (n : Nat) (h : Safe s) : Safe (holdersMore r n s) := by
  have counted : Safe (s.setRes r { s.res r with holders := (s.res r).holders + n }) := h.setRes rfl
  unfold holdersMore; dsimp only
  split
  · exact counted
  · split <;> split
    · exact (becameWanted_safe r counted).setRes rfl
    · exact becameWanted_safe r counted
    · exact counted.setRes rfl
    · exact counted

theorem holdersFewer_safe (r : Res) (n : Nat) (h : Safe s) : Safe (holdersFewer r n s) := by
  have counted : Safe (s.setRes r { s.res r with holders := (s.res r).holders - n }) := h.setRes rfl
  unfold holdersFewer; dsimp only
  repeat' split
  all_goals first | exact counted | exact stoppedWanted_safe r counted

theorem forfeitHolders_safe (r : Res) (w : ForfeitReason) (h : Safe s) : Safe (forfeitHolders r w s) :=
  holdersFewer_safe r _ ((safe_storeTable _).2 h)

theorem afterShift_safe (r : Res) (h : Safe s) : Safe (afterShift r s) :=
  startHead_safe (reevaluate_safe r (checkPumpPath_safe h))

/-! ## Mode Controller and Fault Capture Unit -/

/-- R69: PARKHOLD and RANGE are driven with every change of the mode. -/
theorem setMode_safe (m : Mode) (h : Safe s) : Safe (setMode m s) := by
  have driven : Safe (raiseAtt .modeChanged (s.setMc { s.mc with mode := m, parkhold := parkholdOf m, range := rangeOf m })) :=
    ⟨h.1, ⟨rfl, rfl⟩, rfl⟩
  unfold setMode; dsimp only
  split
  · exact h
  · split
    · exact safe_govOff.2 driven
    · exact driven

theorem deriveMode_safe (h : Safe s) : Safe (deriveMode s) := setMode_safe _ (h.setMc rfl rfl rfl)
theorem evaluateScopes_safe (h : Safe s) : Safe (evaluateScopes s) := h.setMc rfl rfl rfl

theorem abandonApply_safe (w : AbandonReason) (i : Option Nat) (h : Safe s) : Safe (abandonApply w i s) := by
  unfold abandonApply; split
  · exact h
  · exact raiseAtt_safe _ h

theorem standardFault_safe (c : Cause) (r : Option Res) (h : Safe s) : Safe (standardFault c r s) := by
  unfold standardFault; split
  · exact raiseAtt_safe _ h
  · exact h

theorem fillCritical_safe (c : Cause) (r : Option Res) (h : Safe s) : Safe (fillCritical c r s) :=
  raiseAtt_safe _ ((safe_setReason _ _ _).2 (safe_govOff.2 h))

theorem tableLockdown_safe (h : Safe s) : Safe (tableLockdown s) :=
  foldl_safe (fun _ r hs => holdersFewer_safe r _ hs) _ ((safe_storeTable _).2 h)

/-- R54: in lockdown SHIFT stays as commanded and PTOR is released. -/
theorem resourcesLockdown_safe (h : Safe s) : Safe (resourcesLockdown s) := by
  have released (t : State) (ht : Safe t) : Safe (t.setRm { t.rm with
      split := t.rm.split.lockdown t.par .split, ptor := t.rm.ptor.lockdown t.par .ptor,
      ptoa := t.rm.ptoa.lockdown t.par .ptoa, ptob := t.rm.ptob.lockdown t.par .ptob, adoption := none }) :=
    ⟨by simp [ResRec.lockdown, lockdownCmd], ht.2⟩
  unfold resourcesLockdown; dsimp only
  refine foldl_safe (fun _ r hs => driftLapses_safe r hs) _ (released _ ?_)
  split
  · exact checkPumpPath_safe (leaveSlot_safe _ (h.setRm rfl rfl))
  · exact h.setRm rfl rfl

theorem enterLockdown_safe (c : Cause) (r : Option Res) (h : Safe s) : Safe (enterLockdown c r s) :=
  raiseAtt_safe _ (evaluateScopes_safe (deriveMode_safe (resourcesLockdown_safe (tableLockdown_safe
    (abandonApply_safe _ _ (safe_govOff.2 h))))))

theorem criticalFault_safe (c : Cause) (r : Option Res) (h : Safe s) : Safe (criticalFault c r s) := by
  unfold criticalFault
  repeat' split
  · exact h
  · exact enterLockdown_safe c r h
  · exact fillCritical_safe c r h

/-! ## The end of an event -/

theorem motionWatch_safe (h : Safe s) : Safe (motionWatch s) := by
  have noted (b : Bool) : Safe (s.setMc { s.mc with motionEp := b }) := h.setMc rfl rfl rfl
  unfold motionWatch
  repeat' split
  all_goals first | exact h | exact noted _ | exact criticalFault_safe _ _ (noted _)

theorem parkWatch_safe (h : Safe s) : Safe (parkWatch s) := by
  have noted (b : Bool) : Safe (s.setMc { s.mc with parkEp := b }) := h.setMc rfl rfl rfl
  unfold parkWatch
  repeat' split
  all_goals first | exact h | exact noted _ | exact criticalFault_safe _ _ (noted _)

theorem evaluatePumping_safe (h : Safe s) : Safe (evaluatePumping s) := by
  unfold evaluatePumping; dsimp only
  refine parkWatch_safe ?_
  split
  · exact motionWatch_safe (evaluateScopes_safe h)
  · exact evaluateScopes_safe h

theorem graceAtMode_safe (m : Mode) (h : Safe s) : Safe (graceAtMode m s) := by
  unfold graceAtMode
  repeat' split
  all_goals exact h

theorem deriveAndWatch_safe (h : Safe s) : Safe (deriveAndWatch s) :=
  graceAtMode_safe _ (evaluatePumping_safe (deriveMode_safe h))

theorem positionWatches_safe (h : Safe s) : Safe (positionWatches s) := by
  have split : Safe (splitWatch s) := by
    unfold splitWatch
    repeat' split
    all_goals exact h
  refine foldl_safe (fun t r ht => ?_) _ split
  unfold driftWatch
  split
  · exact ht.setRes rfl
  · exact driftLapses_safe r ht

theorem completeResync_safe (b : List Slot) (h : Safe s) : Safe (completeResync b s) := by
  have marked : Safe (markAll (clearAtt resyncClears ((markChanged b s).setFc
      { (markChanged b s).fc with standard := none, also := [] }))) :=
    markAll_safe (clearAtt_safe _ (markChanged_safe b h))
  exact startHead_safe (Safe.setRm (raiseAtt_safe _ (marked.setCp rfl rfl rfl)) rfl rfl)

theorem settleResync_safe (b : List Slot) (h : Safe s) : Safe (settleResync b s) := by
  unfold settleResync; split
  · exact completeResync_safe b h
  · exact h

theorem followUp_safe (s0 : State) (b : List Slot) (h : Safe s) : Safe (followUp s0 b s) := by
  have settled := settleResync_safe b h
  unfold followUp; dsimp only
  split <;> split
  · exact deriveAndWatch_safe settled
  · exact settled
  · exact deriveAndWatch_safe (safe_evaluateSuspensions.2 settled)
  · exact safe_evaluateSuspensions.2 settled

theorem endEvent_safe (s0 : State) (b : List Slot) (h : Safe s) : Safe (endEvent s0 b s) :=
  markChanged_safe b (settleResync_safe b (positionWatches_safe (followUp_safe s0 b h)))

theorem finish_safe (s0 : State) (h : Safe s) : Safe (finish s0 s) := endEvent_safe s0 _ h

end
end Sys2Proof.Machine
end

section
/-! SUPPORT. Every command keeps the promises of the output lines. -/
namespace Sys2Proof.Machine

section
variable {s : State}

/-! ## Requests -/

theorem endTransaction_safe (h : Safe s) : Safe (endTransaction s) := h
theorem putAnswer_safe (code : Byte) (r : Reply) (h : Safe s) : Safe (putAnswer code r s) := h

/-- A request keeps what its owner keeps. -/
theorem takeRequest_safe {f : State → State × Reply} (hf : ∀ s, Safe s → Safe (f s).1) (code : Byte) (d : Bool) (h : Safe s) :
    Safe (takeRequest code d f s) := by
  unfold takeRequest; dsimp only
  repeat' split
  · exact h
  · exact h
  · exact putAnswer_safe _ _ (endTransaction_safe h)
  · exact putAnswer_safe _ _ (hf _ (endTransaction_safe h))

theorem takeRead_safe (f : State → Reply) (code : Byte) (d : Bool) (h : Safe s) : Safe (takeRead code d f s) :=
  takeRequest_safe (fun _ hs => hs) code d h

theorem openRecord_safe (i station : Nat) (x : Spec) (h : Safe s) : Safe (openRecord i station x s) := by
  have held : Safe (reportNewHolder x (storeRecord i station x s)) := by
    unfold reportNewHolder; split
    · exact holdersMore_safe _ _ h
    · exact h
  have pushed : Safe (pushGoverning x ⟨i, (s.dt.slot i).gen⟩ (placeRecord i (reportNewHolder x (storeRecord i station x s)))) := by
    unfold pushGoverning; split <;> exact held
  unfold openRecord; dsimp only
  split <;> exact pushed

theorem serveOpen_safe (station : Nat) (body : DemandBody) (h : Safe s) : Safe (serveOpen station body s).1 := by
  unfold serveOpen; dsimp only
  repeat' split
  all_goals first | exact h | exact endEvent_safe _ _ (openRecord_safe _ _ _ h)

theorem amendRecord_safe (d : Descriptor) (x : Spec) (h : Safe s) : Safe (amendRecord d x s) := by
  unfold amendRecord; dsimp only
  split
  · exact (safe_storeTable _).2 h
  · exact (safe_storeTable _).2 h
  · exact h
  · exact h

theorem serveAmend_safe (body : Option AmendBody) (h : Safe s) : Safe (serveAmend body s).1 := by
  unfold serveAmend; dsimp only
  repeat' split
  all_goals first | exact h | exact endEvent_safe _ _ (amendRecord_safe _ _ h)

theorem retireSlot_safe (i : Nat) (h : Safe s) : Safe (retireSlot i s) := by
  unfold retireSlot; dsimp only
  split
  · exact h
  · split <;> split
    · exact holdersFewer_safe _ _ ((safe_storeTable _).2 h)
    · exact (safe_storeTable _).2 h
    · exact holdersFewer_safe _ _ ((safe_storeTable _).2 h)
    · exact (safe_storeTable _).2 h

theorem serveRetire_safe (d : Option Descriptor) (h : Safe s) : Safe (serveRetire d s).1 := by
  unfold serveRetire; split
  · exact h
  · exact h
  · exact finish_safe _ (retireSlot_safe _ h)

theorem retireStationFrom_safe (station : Nat) (l : List Nat) :
    ∀ p : State × Nat, Safe p.1 → Safe (retireStationFrom station l p).1 := by
  induction l with
  | nil => exact fun _ hp => hp
  | cons i rest ih =>
    intro p hp
    refine ih _ ?_
    split
    · exact retireSlot_safe i hp
    · exact hp

theorem serveRetireStation_safe (station : Nat) (h : Safe s) : Safe (serveRetireStation station s).1 := by
  have retired := retireStationFrom_safe station (List.range 24) (s, 0) h
  unfold serveRetireStation; dsimp only
  generalize retireStationFrom station (List.range 24) (s, 0) = p at retired ⊢
  split
  · exact h
  · exact finish_safe s retired

theorem serveQuery_safe (c : Bool) (d : Option Descriptor) (h : Safe s) : Safe (serveQuery c d s).1 := by
  unfold serveQuery
  repeat' split
  all_goals exact h

theorem serveFind_safe (station : Nat) (c : Bool) (f : Option FindFilter) (h : Safe s) : Safe (serveFind station c f s).1 := by
  unfold serveFind
  repeat' split
  all_goals exact h

theorem serveRenew_safe (station : Nat) (d : Option Descriptor) (h : Safe s) : Safe (serveRenew station d s).1 := by
  unfold serveRenew; dsimp only
  repeat' split
  all_goals first | exact h | exact endEvent_safe _ _ ((safe_storeTable _).2 h)

theorem serveApply_safe (station : Nat) (p : Option Nat) (h : Safe s) : Safe (serveApply station p s).1 := by
  unfold serveApply; dsimp only
  repeat' split
  all_goals exact h

theorem serveAck_safe (body : Option AckBody) (h : Safe s) : Safe (serveAck body s).1 := by
  unfold serveAck; split
  · exact h
  · exact setAttention_safe _ _ h

theorem ackStandard_safe (h : Safe s) : Safe (ackStandard s) := by
  refine foldl_safe (fun t c ht => ?_) _ (clearAtt_safe _ ((safe_setFc _).2 h))
  split
  · exact standardFault_safe _ _ ht
  · exact ht

theorem ackCritical_safe (h : Safe s) : Safe (ackCritical s) := by
  have emptied : Safe (reportCritical false (clearAtt { noAtt with critical := true } (s.setFc { s.fc with critical := none }))) :=
    (safe_setReason _ _ _).2 (clearAtt_safe _ h)
  unfold ackCritical; dsimp only
  split
  · exact fillCritical_safe _ _ emptied
  · exact emptied

theorem serveAckFault_safe (slot : Option FaultSlot) (h : Safe s) : Safe (serveAckFault slot s).1 := by
  unfold serveAckFault; dsimp only
  repeat' split
  all_goals first | exact h | exact finish_safe _ (ackStandard_safe h) | exact finish_safe _ (ackCritical_safe h)

theorem returnShift_safe (h : Safe s) : Safe (returnShift s) := by
  unfold returnShift
  repeat' split
  · exact checkPumpPath_safe (leaveSlot_safe _ (h.setRm rfl rfl))
  · exact h
  · exact h

theorem serveResync_safe (h : Safe s) : Safe (serveResync s).1 := by
  unfold serveResync
  repeat' split
  · exact h
  · exact h
  · have marked : Safe (s.setCp { s.cp with resync := true }) := h.setCp rfl rfl rfl
    exact finish_safe _ (returnShift_safe (Safe.setRm ((safe_setPs _).2 (abandonApply_safe .resync none marked)) rfl rfl))

theorem serveWrite_safe (p : Option Piece) (h : Safe s) : Safe (serveWrite p s).1 := by
  unfold serveWrite completeGroup; dsimp only
  repeat' split
  all_goals exact h

theorem serveErase_safe (h : Safe s) : Safe (serveErase s).1 := by
  unfold serveErase
  repeat' split
  all_goals exact h

theorem serveLock_safe (h : Safe s) : Safe (serveLock s).1 := by
  unfold serveLock
  repeat' split
  all_goals exact h

theorem serveUnlock_safe (h : Safe s) : Safe (serveUnlock s).1 := by
  unfold serveUnlock
  repeat' split
  all_goals exact h

/-- R175: a request handed to its owner keeps the promises. -/
theorem handOver_safe (i : Instr) (h : Safe s) : Safe (handOver i s) := by
  cases i with
  | nop =>
    change Safe (nopTaken s)
    unfold nopTaken; split <;> exact h
  | openDemand st b => exact takeRequest_safe (fun _ hs => serveOpen_safe st b hs) _ _ h
  | amend b => exact takeRequest_safe (fun _ hs => serveAmend_safe b hs) _ _ h
  | retire d => exact takeRequest_safe (fun _ hs => serveRetire_safe d hs) _ _ h
  | retireStation st => exact takeRequest_safe (fun _ hs => serveRetireStation_safe st hs) _ _ h
  | query c d => exact takeRequest_safe (fun _ hs => serveQuery_safe c d hs) _ _ h
  | find st c f => exact takeRequest_safe (fun _ hs => serveFind_safe st c f hs) _ _ h
  | renew st d => exact takeRequest_safe (fun _ hs => serveRenew_safe st d hs) _ _ h
  | applyPreset st p => exact takeRequest_safe (fun _ hs => serveApply_safe st p hs) _ _ h
  | ack b => exact takeRequest_safe (fun _ hs => serveAck_safe b hs) _ _ h
  | ackFault x => exact takeRequest_safe (fun _ hs => serveAckFault_safe x hs) _ _ h
  | resync => exact takeRequest_safe (fun _ hs => serveResync_safe hs) _ _ h
  | profileWrite p => exact takeRequest_safe (fun _ hs => serveWrite_safe p hs) _ _ h
  | profileErase => exact takeRequest_safe (fun _ hs => serveErase_safe hs) _ _ h
  | profileLock => exact takeRequest_safe (fun _ hs => serveLock_safe hs) _ _ h
  | profileUnlock => exact takeRequest_safe (fun _ hs => serveUnlock_safe hs) _ _ h
  | readResources | readMode | readSpeeds | readGovernor | readTank | readPresetResult | status | readFault | profileRead =>
    exact takeRead_safe _ _ _ h
  | _ => exact h

theorem transactionEnds_safe (bits : List Bool) (h : Safe s) : Safe (transactionEnds bits s) := by
  unfold transactionEnds takeReceived
  repeat' split
  all_goals first | exact h | exact handOver_safe _ h

/-! ## Inputs, speeds and timers -/

/-- R191: before the first sample SHIFT and PTOR follow the lines, PTOR never while SHIFT drives PUMP. -/
theorem outputsFollow_safe (l : Inputs) (h : Safe s) : Safe (outputsFollow l s) := by
  refine ⟨?_, h.2⟩
  rintro ⟨hs, hp⟩
  have hs : followShift l = true := hs
  have hp : followPtor l = true := hp
  simp [followPtor, hs] at hp

theorem followBeforeMarking_safe (h : Safe s) : Safe (followBeforeMarking s) := by
  have followed : Safe (if s.fc.lockdown then s else outputsFollow s.mc.accepted s) := by
    split
    · exact h
    · exact outputsFollow_safe _ h
  exact followed.setRm rfl rfl

theorem pathBothTest_safe (h : Safe s) : Safe (pathBothTest s) := by
  unfold pathBothTest
  repeat' split
  · exact h
  · exact criticalFault_safe _ _ (h.setRm rfl rfl)
  · exact h.setRm rfl rfl

theorem stageChange_safe (h : Safe s) : Safe (stageChange s) := by
  unfold stageChange
  split
  · split
    · exact tryActuate_safe h
    · exact trySettle_safe h
    · unfold tryBounce
      repeat' split
      all_goals exact h
  · exact h

theorem followConfirm_safe (r : Res) (h : Safe s) : Safe (followConfirm r s) := by
  unfold followConfirm; split
  · exact h
  · exact checkPumpPath_safe (driftLapses_safe r (takeConfirm_safe r h))

theorem inputChange_safe (h : Safe s) : Safe (inputChange s) := by
  unfold inputChange; split
  · exact pathBothTest_safe (stageChange_safe (foldl_safe (fun _ r hs => followConfirm_safe r hs) _ h))
  · exact pathBothTest_safe (followBeforeMarking_safe h)

theorem inputSampled_safe (l : Inputs) (h : Safe s) : Safe (inputSampled l s) := by
  unfold inputSampled; dsimp only
  split
  · exact h
  · split
    · unfold laterSample; dsimp only
      split
      · exact h
      · exact finish_safe _ (inputChange_safe h)
    · exact finish_safe _ (pathBothTest_safe (followBeforeMarking_safe h))

theorem linesShow_safe (l : Inputs) (h : Safe s) : Safe (linesShow l s) := by
  unfold linesShow; dsimp only
  split
  · exact outputsFollow_safe l ((safe_setSys _).2 h)
  · exact h

theorem clearCut_safe (r : Res) (h : Safe s) : Safe (clearCut r s) := by
  have cleared : Safe (s.setRes r { s.res r with cut := false }) := h.setRes rfl
  unfold clearCut; dsimp only
  split
  · split
    · exact (safe_reportCut _ _).2 (becameWanted_safe r cleared)
    · exact (safe_reportCut _ _).2 cleared
  · exact h

theorem stillnessExpires_safe (h : Safe s) : Safe (stillnessExpires s) := by
  unfold stillnessExpires
  repeat' split
  all_goals first
    | exact h
    | exact finish_safe _ (clearCut_safe _ (clearCut_safe _ (tryActuate_safe (h.setMc rfl rfl rfl))))

theorem cutOut_safe (r : Res) (h : Safe s) : Safe (cutOut r s) := by
  have cut : Safe (s.setRes r { s.res r with cut := true, orphan := false }) := h.setRes rfl
  unfold cutOut; dsimp only
  split
  · refine (safe_reportCut _ _).2 ?_
    repeat' split
    · exact appendEntry_safe _ _ cut
    · exact stoppedWanted_safe r cut
    · exact cut
  · exact h

theorem slipWatch_safe (h : Safe s) : Safe (slipWatch s) := by
  unfold slipWatch
  repeat' split
  all_goals exact h

theorem overspeedWatch_safe (h : Safe s) : Safe (overspeedWatch s) := by
  unfold overspeedWatch; dsimp only
  repeat' split
  all_goals first
    | exact h
    | exact (safe_setReason _ _ _).2 (Safe.setMc (s := s.setMc { s.mc with overSpeed := _ }) h rfl rfl rfl)

theorem windowExpires_safe (h : Safe s) : Safe (windowExpires s) := by
  unfold windowExpires; dsimp only
  split
  · exact h
  · refine finish_safe _ (overspeedWatch_safe (motionWatch_safe (followUp_safe _ _ (slipWatch_safe ?_))))
    exact tryActuate_safe (cutOut_safe _ (cutOut_safe _ ((safe_setPcu _).2 h)))

theorem pulseArrives_safe (ch : SpeedId) (h : Safe s) : Safe (pulseArrives ch s) := by
  unfold pulseArrives
  repeat' split
  all_goals exact h

theorem engineStops_safe (h : Safe s) : Safe (engineStops s) := by
  unfold engineStops
  repeat' split
  all_goals exact h

theorem splitWatchExpires_safe (h : Safe s) : Safe (splitWatchExpires s) := by
  unfold splitWatchExpires; split
  · exact h
  · exact finish_safe _ (criticalFault_safe _ _ (h.setMc rfl rfl rfl))

theorem graceExpires_safe (h : Safe s) : Safe (graceExpires s) := by
  unfold graceExpires; split
  · exact h
  · exact finish_safe _ (standardFault_safe _ _ ((safe_setPg _).2 ((safe_setReason _ _ _).2 (h.setMc rfl rfl rfl))))

theorem slipExpires_safe (h : Safe s) : Safe (slipExpires s) := by
  unfold slipExpires
  repeat' split
  · exact h
  · exact standardFault_safe _ _ (h.setRm rfl rfl)
  · exact h

theorem rearmExpires_safe (h : Safe s) : Safe (rearmExpires s) := by
  unfold rearmExpires; split <;> exact h

/-! ## Level, pressure, governor, tanks -/

theorem levelFault_safe (i : TankId) (h : Safe s) : Safe (levelFault i s) := by
  unfold levelFault; dsimp only
  repeat' split
  · exact h
  · exact standardFault_safe _ _ ((safe_setPcu _).2 h)
  · exact h

theorem levelEdge_safe (i : TankId) (old : Phase) (a b : Bool) (h : Safe s) : Safe (levelEdge i old a b s) := by
  have counted (up : Bool) : Safe (countEdge i up s) := by
    unfold countEdge; dsimp only
    generalize (if up then min 65535 ((s.pcu.level i).count + 1) else (s.pcu.level i).count - 1) = n
    split
    · exact levelFault_safe i ((safe_setPcu _).2 h)
    · exact h
  unfold levelEdge
  repeat' split
  all_goals first | exact h | exact levelFault_safe i h | exact counted _

theorem levelMark_safe (i : TankId) (h : Safe s) : Safe (levelMark i s) := by
  unfold levelMark; dsimp only
  repeat' split
  · exact standardFault_safe _ _ ((safe_setPcu _).2 h)
  · exact h
  · exact h

theorem levelSampled_safe (i : TankId) (a b z m : Bool) (h : Safe s) : Safe (levelSampled i a b z m s) := by
  unfold levelSampled; dsimp only
  repeat' split
  · exact h
  · exact h
  · exact h
  · exact levelEdge_safe _ _ _ _ (levelMark_safe _ ((safe_setPcu _).2 h))
  · exact levelMark_safe _ (levelEdge_safe _ _ _ _ ((safe_setPcu _).2 h))
  · exact levelEdge_safe _ _ _ _ ((safe_setPcu _).2 h)

theorem reportPressure_safe (b a : PressChan) (c : Cause) (h : Safe s) : Safe (reportPressure b a c s) := by
  unfold reportPressure; split
  · exact standardFault_safe _ _ h
  · exact h

theorem converts_safe (d i : Nat) (h : Safe s) : Safe (converts d i s) := by
  unfold converts; dsimp only
  split
  · exact h
  · exact reportPressure_safe _ _ _ ((safe_setPi _).2 (reportPressure_safe _ _ _ ((safe_setPi _).2 h)))

theorem governorUpdates_safe (h : Safe s) : Safe (governorUpdates s) := by
  have timed : Safe (s.setPg { s.pg with updateTimer := some 100 }) := h
  unfold governorUpdates; dsimp only
  repeat' split
  · exact h
  · exact (safe_setPg _).2 (safe_govOff.2 timed)
  · unfold runUpdate; dsimp only
    split
    · exact standardFault_safe _ _ ((safe_setPg _).2 timed)
    · exact timed

theorem handOn_safe (k : TK) (h : Safe s) : Safe (handOn k s) := by
  have empty : Safe (if emptyMoved k s.tk .t0 then reportT0Empty (s.tk.t0.state == .vol .empty) s else s) := by
    split
    · exact (safe_setReason _ _ _).2 h
    · exact h
  unfold handOn; dsimp only
  refine safe_recomputeDraws.2 ?_
  generalize (if emptyMoved k s.tk .t0 then reportT0Empty (s.tk.t0.state == .vol .empty) s else s) = u at empty ⊢
  split <;> split
  · exact raiseAtt_safe _ (safe_evaluateSuspensions.2 empty)
  · exact raiseAtt_safe _ empty
  · exact safe_evaluateSuspensions.2 empty
  · exact empty

theorem tanksUpdate_safe (h : Safe s) : Safe (tanksUpdate s) := by
  have updated (t : State) (i : TankId) (ht : Safe t) : Safe (updateTank i t) := by
    unfold updateTank; dsimp only
    split <;> exact ht
  unfold tanksUpdate; dsimp only
  split
  · exact h
  · exact finish_safe _ (handOn_safe _ (foldl_safe updated _ ((safe_setTk _).2 h)))

theorem loadTanks_safe (l : List TankId) (h : Safe s) : Safe (loadTanks l s) :=
  foldl_safe (fun _ _ ht => handOn_safe _ ((safe_setTk _).2 ht)) _ (foldl_safe (fun _ _ ht => (safe_setPcu _).2 ht) _ h)

/-! ## Shifts, drift, leases -/

theorem shiftDone_safe (r : Res) (op : ShiftOp) (h : Safe s) : Safe (shiftDone r op s) := by
  have left := leaveSlot_safe r h
  unfold shiftDone; dsimp only
  split
  · exact afterShift_safe r ((safe_updateRecords _).2 (left.setRes rfl))
  · exact afterShift_safe r left

theorem settleExpires_safe (h : Safe s) : Safe (settleExpires s) := by
  unfold settleExpires
  repeat' split
  · exact finish_safe _ (shiftDone_safe _ _ h)
  · exact h
  · exact h

theorem prepFails_safe (r : Res) (op : ShiftOp) (h : Safe s) : Safe (prepFails r op s) := by
  have left := leaveSlot_safe r h
  unfold prepFails; dsimp only
  refine afterShift_safe r (standardFault_safe _ _ ?_)
  split
  · exact forfeitHolders_safe _ _ left
  · exact left

theorem prepExpires_safe (h : Safe s) : Safe (prepExpires s) := by
  unfold prepExpires
  repeat' split
  · exact finish_safe _ (prepFails_safe _ _ h)
  · exact h
  · exact h

/-- R42: a failed ENGAGE is driven back, which drives nothing engaged. -/
theorem release_safe (r : Res) (h : Safe s) : Safe (s.setRes r { s.res r with cmd := false }) := by
  refine ⟨?_, h.2⟩
  have h1 := h.1
  cases r <;> simp_all [NeverBothDrives, State.setRes, State.res, RM.put, RM.get]

theorem engageUnconfirmed_safe (r : Res) (h : Safe s) : Safe (engageUnconfirmed r s) :=
  afterShift_safe r (standardFault_safe _ _ (forfeitHolders_safe _ _ (leaveSlot_safe r (release_safe r h))))

theorem disengageUnconfirmed_safe (r : Res) (h : Safe s) : Safe (disengageUnconfirmed r s) := by
  have left := leaveSlot_safe r h
  unfold disengageUnconfirmed; dsimp only
  split
  · refine afterShift_safe _ (criticalFault_safe _ _ ?_)
    split
    · exact left
    · exact left.setRm rfl rfl
  · exact afterShift_safe _ (standardFault_safe _ _ left)

theorem confirmExpires_safe (h : Safe s) : Safe (confirmExpires s) := by
  unfold confirmExpires
  split
  · split
    · refine finish_safe _ ?_
      split
      · exact engageUnconfirmed_safe _ h
      · exact disengageUnconfirmed_safe _ h
    · exact h
  · exact h

theorem driftReports_safe (r : Res) (h : Safe s) : Safe (driftReports r s) := by
  unfold driftReports; split
  · exact criticalFault_safe _ _ h
  · refine standardFault_safe _ _ ?_
    split
    · exact forfeitHolders_safe _ _ h
    · exact h

theorem driftExpires_safe (r : Res) (h : Safe s) : Safe (driftExpires r s) := by
  have disarmed : Safe (s.setRes r { s.res r with driftTimer := none, driftArmed := false }) := h.setRes rfl
  unfold driftExpires; dsimp only
  split
  · exact h
  · refine finish_safe _ ?_
    split
    · exact driftReports_safe r disarmed
    · exact disarmed

theorem adoptionExpires_safe (h : Safe s) : Safe (adoptionExpires s) := by
  have released (t : State) (r : Res) (ht : Safe t) : Safe (releaseOrphan r t) := by
    unfold releaseOrphan; split
    · exact appendEntry_safe _ _ (ht.setRes rfl)
    · exact ht
  unfold adoptionExpires; split
  · exact h
  · exact finish_safe _ (foldl_safe released _ (h.setRm rfl rfl))

theorem leaseExpires_safe (i : Nat) (h : Safe s) : Safe (leaseExpires i s) := by
  unfold leaseExpires
  repeat' split
  all_goals first | exact h | exact finish_safe _ ((safe_storeTable _).2 h)

/-! ## Presets and the store -/

theorem commitTemplates_safe (l : List (Nat × Template)) (h : Safe s) : Safe (commitTemplates l s) := by
  have held (ts : List Template) (t : State) (r : Res) (ht : Safe t) : Safe (reportTemplateHolders ts t r) := by
    unfold reportTemplateHolders; dsimp only
    split
    · exact ht
    · exact holdersMore_safe _ _ ht
  have pushed (t : State) (p : Nat × Template) (ht : Safe t) :
      Safe (pushGoverning p.2.spec ⟨p.1, (t.dt.slot p.1).gen⟩ t) := by
    unfold pushGoverning; split <;> exact ht
  have stored (t : State) (p : Nat × Template) (ht : Safe t) : Safe (storeRecord p.1 p.2.station p.2.spec t) := ht
  have placed (t : State) (p : Nat × Template) (ht : Safe t) : Safe (placeRecord p.1 t) := ht
  have committed := foldl_safe pushed l (foldl_safe placed l (foldl_safe (held (l.map Prod.snd)) allRes
    (foldl_safe stored l h)))
  unfold commitTemplates; dsimp only
  split <;> exact committed

theorem readCompletes_safe (h : Safe s) : Safe (readCompletes s) := by
  have checked (a : Apply) (l : List Template) (t : State) (ht : Safe t) : Safe (checkAndCommit a l t) := by
    unfold checkAndCommit; split
    · exact abandonApply_safe _ _ ht
    · exact raiseAtt_safe _ ((safe_setPe _).2 (commitTemplates_safe _ ht))
  unfold readCompletes; dsimp only
  split
  · exact h
  · split
    · exact finish_safe _ (abandonApply_safe _ _ h)
    · split
      · exact h
      · exact endEvent_safe _ _ (checked _ _ _ ((safe_setPe _).2 h))

theorem writeDone_safe (g : Nat) (d : List Word) (c : Word) (h : Safe s) : Safe (writeDone g d c s) := by
  have counted (b : Bool) (t : State) (ht : Safe t) : Safe (countsAfterWrite g b t) := by
    unfold countsAfterWrite
    repeat' split
    all_goals exact ht
  have used (t : State) (b : Bool) (ht : Safe t) : Safe (if b then govNewValues (useGroup0 t) else t) := by
    split <;> exact ht
  exact raiseAtt_safe _ ((safe_setPs _).2 (counted _ _ (loadTanks_safe _ (used _ _ ((safe_setPs _).2 h)))))

theorem writeCompletes_safe (h : Safe s) : Safe (writeCompletes s) := by
  unfold writeCompletes; split
  · exact finish_safe _ (writeDone_safe _ _ _ h)
  · exact h

theorem eraseCompletes_safe (h : Safe s) : Safe (eraseCompletes s) := by
  unfold eraseCompletes; split
  · exact finish_safe _ (raiseAtt_safe _ ((safe_setPe _).2 (safe_govOff.2 ((safe_setPar _).2 ((safe_setPs _).2 h)))))
  · exact h

/-! ## Resets and start-up -/

/-- The reset values of the outputs (R69, R180, R191). -/
theorem resetBlocks_safe (k : ResetKind) (l0 l1 l2 : LevelChan) (v : Bool) (s : State) : Safe (resetBlocks k l0 l1 l2 v s) := by
  refine ⟨?_, ⟨rfl, rfl⟩, rfl⟩
  rintro ⟨hs, hp⟩
  have hs : followShift s.sys.lines = true := hs
  have hp : followPtor s.sys.lines = true := hp
  simp [followPtor, hs] at hp

theorem resetEnds_safe (h : Safe s) : Safe (resetEnds s) := by
  unfold resetEnds; dsimp only
  split <;> exact h

/-- R49: PTOR is found engaged only where SPLIT is not. -/
theorem markOrphans_safe (h : Safe s) : Safe (markOrphans s) := by
  refine ⟨?_, h.2⟩
  have h1 : s.rm.split.cmd = true → s.rm.ptor.cmd = false := by simpa using h.1
  cases hl : s.fc.lockdown
  · rintro ⟨hs, hp⟩
    simp [markOrphans, markOrphan, hl] at hs hp
    exact hp.2 hs
  · simpa [markOrphans, markOrphan, hl] using h1

theorem validates_safe (h : Safe s) : Safe (validates s) := by
  have validated : Safe (validateStore s) := by
    unfold validateStore; dsimp only
    split
    · exact standardFault_safe _ _ ((safe_setPs _).2 h)
    · exact h
  have taken : Safe (takeProfile (validateStore s)) := by
    unfold takeProfile; split
    · exact (safe_setPe _).2 (loadTanks_safe _ ((safe_setPg _).2 ((safe_setPar _).2 validated)))
    · exact validated
  have reported (t : State) (i : TankId) (ht : Safe t) : Safe (reportLevel i t) := by
    have fault : Safe (if (t.pcu.level i).configured && ((t.pcu.level i).state == .fault || (t.pcu.level i).faultPending) then
        standardFault .levelSensor none (t.setPcu (t.pcu.setLevel i { t.pcu.level i with faultPending := false })) else t) := by
      split
      · exact standardFault_safe _ _ ((safe_setPcu _).2 ht)
      · exact ht
    unfold reportLevel; dsimp only
    generalize (if (t.pcu.level i).configured && ((t.pcu.level i).state == .fault || (t.pcu.level i).faultPending) then
      standardFault .levelSensor none (t.setPcu (t.pcu.setLevel i { t.pcu.level i with faultPending := false })) else t) = u
      at fault ⊢
    split
    · exact standardFault_safe _ _ ((safe_setPcu _).2 fault)
    · exact fault
  unfold validates; dsimp only
  split
  · exact h
  · exact finish_safe _ (deriveAndWatch_safe (markOrphans_safe (foldl_safe reported _ taken)))

/-! ## Every command -/

/-- Every command is executed to a next state that keeps the promises. -/
theorem exec_safe (i : Instr) (h : Safe s) : Safe (stateOf s (exec i s)) := by
  cases i with
  | transactionStart =>
    change Safe (transactionStarts s)
    unfold transactionStarts; split <;> exact h
  | transactionEnd bits => exact transactionEnds_safe bits h
  | coldReset => exact resetBlocks_safe _ _ _ _ _ s
  | warmReset c => exact resetBlocks_safe _ _ _ _ _ s
  | resetEnd => exact resetEnds_safe h
  | inputSample l => exact inputSampled_safe l h
  | stillnessExpiry => exact stillnessExpires_safe h
  | splitWatchExpiry => exact splitWatchExpires_safe h
  | pulseArrival c => exact pulseArrives_safe c h
  | engineStopExpiry => exact engineStops_safe h
  | speedWindow => exact windowExpires_safe h
  | graceExpiry => exact graceExpires_safe h
  | slipExpiry => exact slipExpires_safe h
  | rearmExpiry => exact rearmExpires_safe h
  | levelSample i a b z m => exact levelSampled_safe i a b z m h
  | pressureConversion d i => exact converts_safe d i h
  | governorUpdate => exact governorUpdates_safe h
  | tankUpdate => exact tanksUpdate_safe h
  | prepTimeout => exact prepExpires_safe h
  | confirmExpiry => exact confirmExpires_safe h
  | settleExpiry => exact settleExpires_safe h
  | driftExpiry r => exact driftExpires_safe r h
  | adoptionWindowExpiry => exact adoptionExpires_safe h
  | leaseExpiry i => exact leaseExpires_safe i h
  | templateReadCompletion => exact readCompletes_safe h
  | profileWriteCompletion => exact writeCompletes_safe h
  | profileEraseCompletion => exact eraseCompletes_safe h
  | validationCompletion => exact validates_safe h
  | driveOutputsFollowLines l => exact linesShow_safe l h
  | nop => exact handOver_safe .nop h
  | openDemand st b => exact handOver_safe (.openDemand st b) h
  | amend b => exact handOver_safe (.amend b) h
  | retire d => exact handOver_safe (.retire d) h
  | retireStation st => exact handOver_safe (.retireStation st) h
  | query c d => exact handOver_safe (.query c d) h
  | find st c f => exact handOver_safe (.find st c f) h
  | renew st d => exact handOver_safe (.renew st d) h
  | readResources => exact handOver_safe .readResources h
  | readMode => exact handOver_safe .readMode h
  | readSpeeds => exact handOver_safe .readSpeeds h
  | readGovernor => exact handOver_safe .readGovernor h
  | readTank t => exact handOver_safe (.readTank t) h
  | applyPreset st p => exact handOver_safe (.applyPreset st p) h
  | readPresetResult => exact handOver_safe .readPresetResult h
  | status => exact handOver_safe .status h
  | ack b => exact handOver_safe (.ack b) h
  | readFault => exact handOver_safe .readFault h
  | ackFault x => exact handOver_safe (.ackFault x) h
  | resync => exact handOver_safe .resync h
  | profileRead g => exact handOver_safe (.profileRead g) h
  | profileWrite p => exact handOver_safe (.profileWrite p) h
  | profileErase => exact handOver_safe .profileErase h
  | profileLock => exact handOver_safe .profileLock h
  | profileUnlock => exact handOver_safe .profileUnlock h

theorem tick_safe (h : Safe s) : Safe (tick s) := by
  unfold tick; extract_lets
  refine (safe_setPs _).2 ((safe_setPe _).2 ((safe_setTk _).2 ((safe_setPg _).2 ((safe_setPi _).2 ((safe_setPcu _).2 ?_)))))
  exact Safe.setMc (Safe.setRm ((safe_setDt _).2 h) rfl rfl) rfl rfl rfl

/-- One millisecond or one command keeps the promises. -/
theorem step_safe {t : State} (h : Safe s) (hs : step s = .next t) : Safe t := by
  cases hp : s.pending with
  | nil =>
    simp only [step, hp] at hs
    exact Host.Outcome.next.inj hs ▸ tick_safe h
  | cons c rest =>
    simp only [step, hp] at hs
    have he := exec_safe c ((safe_setPending rest).2 h)
    rw [hs] at he
    exact he

end

/-- R69's table, mode by mode, is the model's. -/
theorem lockoutsAgree_iff (s : State) : LockoutsAgree s ↔ (s.mc.parkhold, s.mc.range) = match s.mc.mode with
    | .road => (false, .free)
    | .shifting => (true, .neutralOnly)
    | .pump => (true, .pumpOnly)
    | .roll => (false, .lowOnly)
    | .indeterminate => (true, .neutralOnly)
    | .lockdown => (true, .neutralOnly) := by
  unfold LockoutsAgree
  cases s.mc.mode <;> simp [parkholdOf, rangeOf]

/-- Settles O56: SHIFT and PTOR, PARKHOLD and RANGE, and ATTN stand by their rules through every step. -/
theorem outputsStaySafe : Obligations.OutputsStaySafe := by
  unfold Obligations.OutputsStaySafe
  intro lockouts s t ⟨hd, hl, ha⟩ hs
  obtain ⟨d, l, a⟩ := step_safe ⟨hd, (lockoutsAgree_iff s).2 hl, ha⟩ hs
  exact ⟨d, (lockoutsAgree_iff t).1 l, a⟩

end Sys2Proof.Machine
end

section
/-! SUPPORT and O50. The requests that read: each is its owner's answer on an unchanged state. -/
namespace Sys2Proof.Machine

section
variable {s : State}

/-- The end of its transaction changes nothing a request's owner reads (R173). -/
theorem takeRead_answers {code : Byte} {d : Bool} {f : State → Reply} {result : Result} {body : Body} (h : Serving s)
    (hf : f (endTransaction s) = ⟨result, body⟩) : takeRead code d f s = answered code result body s := by
  rw [takeRead_serving h, hf]

/-- R150: the capacity is the last volume of the strapping table. -/
theorem tankCfg_view_eq : TankCfg.view =
    fun c => ⟨(c.points.getLast?.map Prod.snd).getD 0, c.empty, c.reserve, c.low, c.hyst⟩ := by
  funext c
  unfold TankCfg.view TankCfg.capacity
  cases c.points.getLast? <;> rfl

theorem readTank_absent {n : Nat} (h : 2 < n) : tankOf n = none := by
  match n, h with
  | k + 3, _ => rfl

/-- R187: PROFILE_READ is BUSY before validation and while a write or an erase runs. -/
theorem readProfile_busy (h : s.ps.validated = false ∨ s.ps.op.isSome = true) (g : Option Nat) :
    readProfile g (endTransaction s) = ⟨.busy, .empty⟩ := by
  have busy : (endTransaction s).profileBusy = true := by
    obtain h | h := h <;> simp [State.profileBusy, State.storeBusy, endTransaction, h]
  simp [readProfile, busy, Reply.of]

theorem profileBusy_eq (hv : s.ps.validated = true) (ho : s.ps.op = none) : (endTransaction s).profileBusy = false := by
  simp [State.profileBusy, State.storeBusy, endTransaction, hv, ho]

theorem readProfile_group {g : Nat} {x : Group} {c : GroupCond} (hv : s.ps.validated = true) (ho : s.ps.op = none) (hg : g ≤ 11)
    (hx : s.ps.groups[g]? = some x) (hc : s.ps.conds[g]? = some c) :
    readProfile (some g) (endTransaction s) = ⟨.ok, .group g c x.data x.check s.ps.validity s.ps.locked⟩ := by
  have stands : (endTransaction s).ps = s.ps := rfl
  simp [readProfile, profileBusy_eq hv ho, stands, PS.group, Nat.not_lt.2 hg, hx, hc]

end

/-- Settles O50: each read is answered with the fields of its rule on an otherwise unchanged state. -/
theorem readsAnswerAndChangeNothing : Obligations.ReadsAnswerAndChangeNothing := by
  unfold Obligations.ReadsAnswerAndChangeNothing
  intro s h
  dsimp only
  refine ⟨congrArg _ (takeRead_answers h rfl), congrArg _ (takeRead_answers h rfl), congrArg _ (takeRead_answers h rfl),
    congrArg _ (takeRead_answers h rfl), ?_, ?_, ?_, ?_, congrArg _ (takeRead_answers h rfl),
    congrArg _ (takeRead_answers h rfl), congrArg _ (takeRead_answers h rfl), ?_, ?_⟩
  · exact congrArg _ (takeRead_answers h (by rw [← tankCfg_view_eq]; rfl))
  · exact congrArg _ (takeRead_answers h (by rw [← tankCfg_view_eq]; rfl))
  · exact congrArg _ (takeRead_answers h (by rw [← tankCfg_view_eq]; rfl))
  · exact fun n hn => congrArg _ (takeRead_answers h (by simp [readTank, readTank_absent hn, Reply.of]))
  · exact fun hb g => congrArg _ (takeRead_answers h (readProfile_busy hb g))
  · intro hv ho
    refine ⟨?_, fun g hg => ?_, fun g x c hg hx hc => congrArg _ (takeRead_answers h (readProfile_group hv ho hg hx hc))⟩
    · exact congrArg _ (takeRead_answers h (by simp [readProfile, profileBusy_eq hv ho, Reply.of]))
    · exact congrArg _ (takeRead_answers h (by simp [readProfile, profileBusy_eq hv ho, hg, Reply.of]))

end Sys2Proof.Machine
end

section
/-! SUPPORT. What the Demand Table's shared operations do to the records, slot by slot, and what they leave. -/
namespace Sys2Proof.Machine

/-! ## Records by slot -/

/-- Every slot's record is moved as `P` says, and no record comes or goes. -/
def Moves (P : Rec → Rec → Prop) (s t : State) : Prop :=
  ∀ i, Option.Rel P (s.dt.slot i).record (t.dt.slot i).record

section
variable {P Q : Rec → Rec → Prop} {s t u : State}

theorem Moves.refl (h : ∀ r, P r r) (s : State) : Moves P s s := fun i => by
  cases (s.dt.slot i).record with
  | none => exact .none
  | some r => exact .some (h r)

theorem Moves.of_dt (h : ∀ r, P r r) (e : t.dt = s.dt) : Moves P s t := fun i => e ▸ Moves.refl h s i

theorem Moves.forward (h : Moves P s t) {i : Nat} {r : Rec} (hr : (s.dt.slot i).record = some r) :
    ∃ r', (t.dt.slot i).record = some r' ∧ P r r' := by
  have := h i
  rw [hr] at this
  cases hx : (t.dt.slot i).record with
  | none => rw [hx] at this; cases this
  | some r' => rw [hx] at this; cases this; exact ⟨r', rfl, ‹_›⟩

theorem Moves.back (h : Moves P s t) {i : Nat} {r' : Rec} (hr : (t.dt.slot i).record = some r') :
    ∃ r, (s.dt.slot i).record = some r ∧ P r r' := by
  have := h i
  rw [hr] at this
  cases hx : (s.dt.slot i).record with
  | none => rw [hx] at this; cases this
  | some r => rw [hx] at this; cases this; exact ⟨r, rfl, ‹_›⟩

theorem Moves.mono (h : Moves P s t) (k : ∀ r r', P r r' → Q r r') : Moves Q s t := fun i => by
  have := h i
  cases hx : (s.dt.slot i).record <;> cases hy : (t.dt.slot i).record <;> rw [hx, hy] at this <;> cases this
  · exact .none
  · exact .some (k _ _ ‹_›)

theorem Moves.trans {R : Rec → Rec → Prop} (h : Moves P s t) (k : Moves Q t u)
    (c : ∀ r r' r'', P r r' → Q r' r'' → R r r'') : Moves R s u := fun i => by
  cases hx : (s.dt.slot i).record with
  | none =>
    cases hz : (u.dt.slot i).record with
    | none => exact .none
    | some r'' =>
      obtain ⟨r', hy, -⟩ := k.back hz
      obtain ⟨r, hr, -⟩ := h.back hy
      cases hx.symm.trans hr
  | some r =>
    obtain ⟨r', hy, p⟩ := h.forward hx
    obtain ⟨r'', hz, q⟩ := k.forward hy
    rw [hz]
    exact .some (c _ _ _ p q)

theorem Moves.of_map {f : Rec → Rec} (e : ∀ i, (t.dt.slot i).record = (s.dt.slot i).record.map f) (h : ∀ r, P r (f r)) :
    Moves P s t := fun i => by
  rw [e i]
  cases (s.dt.slot i).record with
  | none => exact .none
  | some r => exact .some (h r)

end

/-! ## Slots -/

theorem record_mapRec (f : Rec → Rec) (x : Slot) : (x.mapRec f).record = x.record.map f := by
  unfold Slot.mapRec Slot.record
  cases h : x.cond <;> simp [h]

/-- Records changed one by one are changed in their slots. -/
theorem slot_map_record (f : Rec → Rec) (l : List Slot) (g : List Descriptor) (i : Nat) :
    ((DT.mk (l.map (Slot.mapRec f)) g).slot i).record = ((DT.mk l g).slot i).record.map f := by
  unfold DT.slot
  rw [List.getD_eq_getElem?_getD, List.getD_eq_getElem?_getD, List.getElem?_map]
  cases l[i]? with
  | none => rfl
  | some x => exact record_mapRec f x

/-- A record of the table stands in one of its slots. -/
theorem mem_records_iff {t : DT} {r : Rec} : r ∈ t.records ↔ ∃ i, (t.slot i).record = some r := by
  unfold DT.records DT.slot
  rw [List.mem_filterMap]
  constructor
  · rintro ⟨x, hx, hr⟩
    obtain ⟨i, hi, rfl⟩ := List.getElem_of_mem hx
    exact ⟨i, by simp [List.getD_eq_getElem?_getD, hi, hr]⟩
  · rintro ⟨i, hr⟩
    rw [List.getD_eq_getElem?_getD] at hr
    cases hx : t.slots[i]? with
    | none => rw [hx] at hr; cases hr
    | some x =>
      rw [hx] at hr
      exact ⟨x, List.mem_of_getElem? hx, hr⟩

/-! ## The table stored -/

section
variable (s : State)

theorem storeTable_eq (t : DT) : ∃ g, storeTable t s = (s.setDt t).setPg g := by
  unfold storeTable tellGovernor govListLost
  repeat' split
  · exact ⟨_, rfl⟩
  · exact ⟨_, rfl⟩
  · exact ⟨_, rfl⟩

@[simp] theorem storeTable_dt (t : DT) : (storeTable t s).dt = t := by obtain ⟨g, e⟩ := storeTable_eq s t; simp [e]
@[simp] theorem storeTable_rm (t : DT) : (storeTable t s).rm = s.rm := by obtain ⟨g, e⟩ := storeTable_eq s t; simp [e]
@[simp] theorem storeTable_fc (t : DT) : (storeTable t s).fc = s.fc := by obtain ⟨g, e⟩ := storeTable_eq s t; simp [e]
@[simp] theorem storeTable_cp (t : DT) : (storeTable t s).cp = s.cp := by obtain ⟨g, e⟩ := storeTable_eq s t; simp [e]
@[simp] theorem storeTable_mc (t : DT) : (storeTable t s).mc = s.mc := by obtain ⟨g, e⟩ := storeTable_eq s t; simp [e]
@[simp] theorem storeTable_tk (t : DT) : (storeTable t s).tk = s.tk := by obtain ⟨g, e⟩ := storeTable_eq s t; simp [e]
@[simp] theorem storeTable_pe (t : DT) : (storeTable t s).pe = s.pe := by obtain ⟨g, e⟩ := storeTable_eq s t; simp [e]

variable (f : Rec → Rec)

@[simp] theorem updateRecords_rm : (updateRecords f s).rm = s.rm := storeTable_rm s _
@[simp] theorem updateRecords_fc : (updateRecords f s).fc = s.fc := storeTable_fc s _
@[simp] theorem updateRecords_cp : (updateRecords f s).cp = s.cp := storeTable_cp s _
@[simp] theorem updateRecords_mc : (updateRecords f s).mc = s.mc := storeTable_mc s _
@[simp] theorem updateRecords_tk : (updateRecords f s).tk = s.tk := storeTable_tk s _
@[simp] theorem updateRecords_pe : (updateRecords f s).pe = s.pe := storeTable_pe s _

theorem updateRecords_dt : (updateRecords f s).dt = { s.dt with slots := s.dt.slots.map (Slot.mapRec f) } := storeTable_dt s _

theorem updateRecords_record (i : Nat) : ((updateRecords f s).dt.slot i).record = (s.dt.slot i).record.map f := by
  rw [updateRecords_dt]
  exact slot_map_record f _ _ i

end
end Sys2Proof.Machine
end

section
/-! SUPPORT. What the Resource Manager's orders do and leave: the equations of the operations a shift's end is made of, and one
frame lemma per operation. -/
namespace Sys2Proof.Machine

section
variable (s : State) (r q : Res)

/-! ## Governor and draws -/

theorem govOff_eq : ∃ g, govOff s = s.setPg g := by
  unfold govOff; split
  · exact ⟨s.pg, rfl⟩
  · exact ⟨_, rfl⟩

@[simp] theorem govOff_rm : (govOff s).rm = s.rm := by obtain ⟨g, e⟩ := govOff_eq s; simp [e]
@[simp] theorem govOff_dt : (govOff s).dt = s.dt := by obtain ⟨g, e⟩ := govOff_eq s; simp [e]
@[simp] theorem govOff_fc : (govOff s).fc = s.fc := by obtain ⟨g, e⟩ := govOff_eq s; simp [e]
@[simp] theorem govOff_cp : (govOff s).cp = s.cp := by obtain ⟨g, e⟩ := govOff_eq s; simp [e]
@[simp] theorem govOff_mc : (govOff s).mc = s.mc := by obtain ⟨g, e⟩ := govOff_eq s; simp [e]
@[simp] theorem govOff_tk : (govOff s).tk = s.tk := by obtain ⟨g, e⟩ := govOff_eq s; simp [e]
@[simp] theorem govOff_pe : (govOff s).pe = s.pe := by obtain ⟨g, e⟩ := govOff_eq s; simp [e]

@[simp] theorem recomputeDraws_rm : (recomputeDraws s).rm = s.rm := rfl
@[simp] theorem recomputeDraws_dt : (recomputeDraws s).dt = s.dt := rfl
@[simp] theorem recomputeDraws_fc : (recomputeDraws s).fc = s.fc := rfl
@[simp] theorem recomputeDraws_cp : (recomputeDraws s).cp = s.cp := rfl
@[simp] theorem recomputeDraws_mc : (recomputeDraws s).mc = s.mc := rfl
@[simp] theorem recomputeDraws_pe : (recomputeDraws s).pe = s.pe := rfl

@[simp] theorem driveValves_rm : (driveValves s).rm = s.rm := rfl
@[simp] theorem driveValves_dt : (driveValves s).dt = s.dt := rfl
@[simp] theorem driveValves_fc : (driveValves s).fc = s.fc := rfl
@[simp] theorem driveValves_cp : (driveValves s).cp = s.cp := rfl
@[simp] theorem driveValves_mc : (driveValves s).mc = s.mc := rfl
@[simp] theorem driveValves_pe : (driveValves s).pe = s.pe := rfl

/-! ## The pump path (R30) -/

/-- What a change of the pump path tells a record (R23). -/
def Rec.toldPath (m : RM) (engaged : Bool) (r : Rec) : Rec := Rec.withReason m .noPump (!engaged) Rec.isDischarge r

@[simp] theorem reportPumpPath_rm (b : Bool) : (reportPumpPath b s).rm = s.rm := updateRecords_rm s _
@[simp] theorem reportPumpPath_fc (b : Bool) : (reportPumpPath b s).fc = s.fc := updateRecords_fc s _
@[simp] theorem reportPumpPath_cp (b : Bool) : (reportPumpPath b s).cp = s.cp := updateRecords_cp s _
@[simp] theorem reportPumpPath_mc (b : Bool) : (reportPumpPath b s).mc = s.mc := updateRecords_mc s _
@[simp] theorem reportPumpPath_pe (b : Bool) : (reportPumpPath b s).pe = s.pe := updateRecords_pe s _

/-- R30: the pump path stands as the confirmed positions give it; nothing else of the Resource Manager moves. -/
theorem checkPumpPath_rm : (checkPumpPath s).rm = { s.rm with pumpPath := s.rm.pathEngaged } := by
  unfold checkPumpPath; dsimp only
  split
  · rename_i h
    rw [h]
  · split <;> simp

@[simp] theorem checkPumpPath_fc : (checkPumpPath s).fc = s.fc := by
  unfold checkPumpPath; dsimp only
  repeat' split
  all_goals simp

@[simp] theorem checkPumpPath_cp : (checkPumpPath s).cp = s.cp := by
  unfold checkPumpPath; dsimp only
  repeat' split
  all_goals simp

@[simp] theorem checkPumpPath_mc : (checkPumpPath s).mc = s.mc := by
  unfold checkPumpPath; dsimp only
  repeat' split
  all_goals simp

@[simp] theorem checkPumpPath_pe : (checkPumpPath s).pe = s.pe := by
  unfold checkPumpPath; dsimp only
  repeat' split
  all_goals simp

@[simp] theorem checkPumpPath_res : (checkPumpPath s).res q = s.res q := by
  unfold State.res
  rw [checkPumpPath_rm]
  cases q <;> rfl

@[simp] theorem checkPumpPath_shift : (checkPumpPath s).rm.shift = s.rm.shift := by rw [checkPumpPath_rm]
@[simp] theorem checkPumpPath_queue : (checkPumpPath s).rm.queue = s.rm.queue := by rw [checkPumpPath_rm]
@[simp] theorem checkPumpPath_closed : (checkPumpPath s).rm.closed = s.rm.closed := by rw [checkPumpPath_rm]
@[simp] theorem checkPumpPath_stuck : (checkPumpPath s).rm.stuck = s.rm.stuck := by rw [checkPumpPath_rm]
@[simp] theorem checkPumpPath_pathBoth : (checkPumpPath s).rm.pathBoth = s.rm.pathBoth := by rw [checkPumpPath_rm]

/-- The records are told of a change of the pump path, and of nothing else. -/
theorem checkPumpPath_records : Moves (fun r r' => r' = r ∨ ∃ b, r' = r.toldPath s.rm b) s (checkPumpPath s) := by
  have told (b : Bool) (t : State) (ht : t.dt = (reportPumpPath b (s.setRm { s.rm with pumpPath := b })).dt) :
      Moves (fun r r' => r' = r ∨ ∃ b, r' = r.toldPath s.rm b) s t :=
    Moves.of_map (fun i => by rw [ht]; exact updateRecords_record _ _ i) (fun r => .inr ⟨b, rfl⟩)
  unfold checkPumpPath; dsimp only
  split
  · exact .refl (fun _ => .inl rfl) s
  · split
    · exact told _ _ rfl
    · exact told _ _ (govOff_dt _)

theorem toldPath_stands (m : RM) (b : Bool) {x : Rec} (h : x.isForfeit = true ∨ x.isDischarge = false) :
    x.toldPath m b = x := by
  unfold Rec.toldPath Rec.withReason
  obtain h | h := h <;> simp [h]

/-! ## Inputs and preconditions -/

variable {s} in
theorem Kept.input {t : State} (h : Kept s t) : t.input q = s.input q := by
  cases q <;> simp [State.input, MC.splitPos, MC.accepted, h.deb, h.inited]

variable {s} in
theorem input_of_mc {t : State} (hd : t.mc.deb = s.mc.deb) (hi : t.mc.inited = s.mc.inited) : t.input q = s.input q := by
  cases q <;> simp [State.input, MC.splitPos, MC.accepted, hd, hi]

/-! ## The end of a shift (R28) -/

/-- R28: the shift leaves the slot and its resource's confirmed position takes the confirm input. -/
theorem leaveSlot_eq : ∃ b, leaveSlot r s =
    s.setRm { s.rm.put r { s.res r with conf := s.input r } with shift := none, stuck := b } := by
  have e : (s.setRm { s.rm with shift := none }).res r = s.res r := setRm_res s r ⟨rfl, rfl, rfl, rfl⟩
  have i : (s.setRm { s.rm with shift := none }).input r = s.input r := input_of_mc r rfl rfl
  unfold leaveSlot takeConfirm; dsimp only
  rw [e, i]
  split
  · rename_i h
    refine ⟨s.rm.stuck, ?_⟩
    rw [← h]
    cases r <;> rfl
  · split
    · exact ⟨false, by cases r <;> rfl⟩
    · exact ⟨s.rm.stuck, by cases r <;> rfl⟩

@[simp] theorem leaveSlot_dt : (leaveSlot r s).dt = s.dt := by obtain ⟨b, e⟩ := leaveSlot_eq s r; simp [e]
@[simp] theorem leaveSlot_fc : (leaveSlot r s).fc = s.fc := by obtain ⟨b, e⟩ := leaveSlot_eq s r; simp [e]
@[simp] theorem leaveSlot_cp : (leaveSlot r s).cp = s.cp := by obtain ⟨b, e⟩ := leaveSlot_eq s r; simp [e]
@[simp] theorem leaveSlot_mc : (leaveSlot r s).mc = s.mc := by obtain ⟨b, e⟩ := leaveSlot_eq s r; simp [e]
@[simp] theorem leaveSlot_pe : (leaveSlot r s).pe = s.pe := by obtain ⟨b, e⟩ := leaveSlot_eq s r; simp [e]
@[simp] theorem leaveSlot_tk : (leaveSlot r s).tk = s.tk := by obtain ⟨b, e⟩ := leaveSlot_eq s r; simp [e]
@[simp] theorem leaveSlot_par : (leaveSlot r s).par = s.par := (leaveSlot_kept s r).par
@[simp] theorem leaveSlot_shift : (leaveSlot r s).rm.shift = none := by obtain ⟨b, e⟩ := leaveSlot_eq s r; simp [e]
@[simp] theorem leaveSlot_queue : (leaveSlot r s).rm.queue = s.rm.queue := by
  obtain ⟨b, e⟩ := leaveSlot_eq s r; cases r <;> simp [e, RM.put]
@[simp] theorem leaveSlot_closed : (leaveSlot r s).rm.closed = s.rm.closed := by
  obtain ⟨b, e⟩ := leaveSlot_eq s r; cases r <;> simp [e, RM.put]
@[simp] theorem leaveSlot_pathBoth : (leaveSlot r s).rm.pathBoth = s.rm.pathBoth := by
  obtain ⟨b, e⟩ := leaveSlot_eq s r; cases r <;> simp [e, RM.put]
@[simp] theorem leaveSlot_pumpPath : (leaveSlot r s).rm.pumpPath = s.rm.pumpPath := by
  obtain ⟨b, e⟩ := leaveSlot_eq s r; cases r <;> simp [e, RM.put]

theorem leaveSlot_res : (leaveSlot r s).res q = if q = r then { s.res r with conf := s.input r } else s.res q := by
  obtain ⟨b, e⟩ := leaveSlot_eq s r
  rw [e]
  cases r <;> cases q <;> rfl

@[simp] theorem leaveSlot_res_same : (leaveSlot r s).res r = { s.res r with conf := s.input r } := by simp [leaveSlot_res]

/-! ## Re-evaluation (R35) -/

variable {s r}

/-- R35: a resource that is wanted as it is commanded needs no order. -/
theorem reevaluate_settled (h : s.wanted r = (s.res r).cmd) : reevaluate r s = s := by
  unfold reevaluate
  rw [h]
  cases (s.res r).cmd <;> simp

theorem reevaluate_engages (hl : s.fc.lockdown = false) (he : s.rm.entry r = none) (hw : s.wanted r = true)
    (hc : (s.res r).cmd = false) : reevaluate r s = appendEntry r .engage s := by
  simp [reevaluate, hl, he, hw, hc]

theorem reevaluate_disengages (hl : s.fc.lockdown = false) (he : s.rm.entry r = none) (hw : s.wanted r = false)
    (hc : (s.res r).cmd = true) : reevaluate r s = appendEntry r .disengage s := by
  simp [reevaluate, hl, he, hw, hc]

@[simp] theorem checkPumpPath_wanted (q : Res) : (checkPumpPath s).wanted q = s.wanted q := by simp [State.wanted]

/-- R41 to R43: where the resource is wanted as commanded and no head entry can take the slot, what follows a shift's reports is
the pump path alone. -/
theorem afterShift_settled (hw : s.wanted r = (s.res r).cmd)
    (hq : s.rm.shift.isSome = true ∨ s.rm.queue = [] ∨ s.rm.closed = true) : afterShift r s = checkPumpPath s := by
  unfold afterShift
  rw [reevaluate_settled (by simpa using hw), startHead_stands (by simpa using hq)]

/-- R34: a resource that is not commanded engaged, with nothing queued or in flight for it, needs no order. -/
theorem stoppedWanted_idle (he : s.rm.entry r = none) (hs : s.rm.shift = none) (hc : (s.res r).cmd = false) :
    stoppedWanted r s = s := by
  simp [stoppedWanted, he, hs, hc]

theorem holdersFewer_idle (n : Nat) (he : s.rm.entry r = none) (hs : s.rm.shift = none) (hc : (s.res r).cmd = false) :
    holdersFewer r n s = s.setRes r { s.res r with holders := (s.res r).holders - n } := by
  have entry : (s.setRes r { s.res r with holders := (s.res r).holders - n }).rm.entry r = none := by
    simpa [RM.entry] using he
  unfold holdersFewer; dsimp only
  rw [stoppedWanted_idle entry (by simpa using hs) (by simpa using hc)]
  simp

end
end Sys2Proof.Machine
end

section
/-! SUPPORT. The frame of the Resource Manager's orders: queue, slot, outputs and reports leave the captures, the attention flags, the
mode, the watches and every FORFEIT record as they were. One lemma per operation. -/
namespace Sys2Proof.Machine

/-- A report keeps a record's demand and its changed flag, and a FORFEIT record altogether (R22, R23). -/
def Rec.Reported (r r' : Rec) : Prop := r'.demand = r.demand ∧ r'.changed = r.changed ∧ (r.isForfeit = true → r' = r)

theorem Rec.Reported.refl (r : Rec) : Reported r r := ⟨rfl, rfl, fun _ => rfl⟩

theorem Rec.Reported.trans {a b c : Rec} (h : Reported a b) (k : Reported b c) : Reported a c :=
  ⟨k.1.trans h.1, k.2.1.trans h.2.1, fun x => by
    obtain rfl := h.2.2 x
    exact k.2.2 x⟩

/-- What the Resource Manager's orders leave as it was. -/
structure Orders (s t : State) : Prop where
  fc : t.fc = s.fc
  cp : t.cp = s.cp
  pe : t.pe = s.pe
  mc : ∃ a b, t.mc = { s.mc with splitTimer := a, splitReported := b }
  closed : t.rm.closed = s.rm.closed
  adoption : t.rm.adoption = s.rm.adoption
  pathBoth : t.rm.pathBoth = s.rm.pathBoth
  slipTimer : t.rm.slipTimer = s.rm.slipTimer
  rearmTimer : t.rm.rearmTimer = s.rm.rearmTimer
  slipArmed : t.rm.slipArmed = s.rm.slipArmed
  orphan : ∀ q, (s.res q).orphan = false → (t.res q).orphan = false
  records : Moves Rec.Reported s t

namespace Orders

theorem refl (s : State) : Orders s s where
  fc := rfl
  cp := rfl
  pe := rfl
  mc := ⟨_, _, rfl⟩
  closed := rfl
  adoption := rfl
  pathBoth := rfl
  slipTimer := rfl
  rearmTimer := rfl
  slipArmed := rfl
  orphan := fun _ h => h
  records := .refl Rec.Reported.refl s

theorem trans {s t u : State} (h : Orders s t) (k : Orders t u) : Orders s u where
  fc := k.fc.trans h.fc
  cp := k.cp.trans h.cp
  pe := k.pe.trans h.pe
  mc := by
    obtain ⟨a, b, e⟩ := h.mc
    obtain ⟨c, d, f⟩ := k.mc
    exact ⟨c, d, by rw [f, e]⟩
  closed := k.closed.trans h.closed
  adoption := k.adoption.trans h.adoption
  pathBoth := k.pathBoth.trans h.pathBoth
  slipTimer := k.slipTimer.trans h.slipTimer
  rearmTimer := k.rearmTimer.trans h.rearmTimer
  slipArmed := k.slipArmed.trans h.slipArmed
  orphan := fun q x => k.orphan q (h.orphan q x)
  records := h.records.trans k.records fun _ _ _ => .trans

theorem mode {s t : State} (h : Orders s t) : t.mc.mode = s.mc.mode := by obtain ⟨a, b, e⟩ := h.mc; rw [e]
theorem derived {s t : State} (h : Orders s t) : t.mc.derived = s.mc.derived := by obtain ⟨a, b, e⟩ := h.mc; rw [e]
theorem sp {s t : State} (h : Orders s t) : t.mc.sp = s.mc.sp := by obtain ⟨a, b, e⟩ := h.mc; rw [e]
theorem motionEp {s t : State} (h : Orders s t) : t.mc.motionEp = s.mc.motionEp := by obtain ⟨a, b, e⟩ := h.mc; rw [e]
theorem parkEp {s t : State} (h : Orders s t) : t.mc.parkEp = s.mc.parkEp := by obtain ⟨a, b, e⟩ := h.mc; rw [e]
theorem accepted {s t : State} (h : Orders s t) : t.mc.accepted = s.mc.accepted := by obtain ⟨a, b, e⟩ := h.mc; rw [e]; rfl
theorem splitPos {s t : State} (h : Orders s t) : t.mc.splitPos = s.mc.splitPos := by obtain ⟨a, b, e⟩ := h.mc; rw [e]; rfl

end Orders

section
variable (s : State) (r : Res)

/-! ## Updates -/

variable {s r} in
/-- A resource record may be updated in all but gaining an orphan flag. -/
theorem Orders.setRes {t : State} {x : ResRec} (h : Orders s t) (k : (t.res r).orphan = false → x.orphan = false) :
    Orders s (t.setRes r x) :=
  h.trans
    { Orders.refl t with
      closed := setRes_closed ..
      adoption := setRes_adoption ..
      pathBoth := setRes_pathBoth ..
      slipTimer := setRes_slipTimer ..
      rearmTimer := setRes_rearmTimer ..
      slipArmed := setRes_slipArmed ..
      orphan := fun q hq => by
        rw [setRes_res]
        split
        · subst q; exact k hq
        · exact hq }

variable {s} in
/-- The slot, the queue, the stuck flag and the pump path may be updated. -/
theorem Orders.setRm {t : State} {sh : Option Shift} {l : List Entry} {b p : Bool} (h : Orders s t) :
    Orders s (t.setRm { t.rm with shift := sh, queue := l, stuck := b, pumpPath := p }) :=
  h.trans { Orders.refl t with orphan := fun q hq => by cases q <;> exact hq }

/-- An update of the table, the governor and the tanks by which no FORFEIT record moves. -/
theorem Orders.of_records {s t : State} (hr : t.rm = s.rm) (hf : t.fc = s.fc) (hc : t.cp = s.cp) (hm : t.mc = s.mc)
    (hp : t.pe = s.pe) (h : Moves Rec.Reported s t) : Orders s t where
  fc := hf
  cp := hc
  pe := hp
  mc := ⟨_, _, hm⟩
  closed := by rw [hr]
  adoption := by rw [hr]
  pathBoth := by rw [hr]
  slipTimer := by rw [hr]
  rearmTimer := by rw [hr]
  slipArmed := by rw [hr]
  orphan := fun q hq => by unfold State.res at hq ⊢; rwa [hr]
  records := h

theorem updateRecords_orders {f : Rec → Rec} (h : ∀ x, Rec.Reported x (f x)) : Orders s (updateRecords f s) :=
  .of_records (by simp) (by simp) (by simp) (by simp) (by simp) (.of_map (updateRecords_record s f) h)

/-- R23: a FORFEIT record gains no reason. -/
theorem withReason_reported (m : RM) (h : HoldReason) (on : Bool) (p : Rec → Bool) (x : Rec) :
    Rec.Reported x (Rec.withReason m h on p x) := by
  unfold Rec.withReason
  cases hx : x.isForfeit
  · split
    · exact .refl x
    · exact ⟨rfl, rfl, by simp [hx]⟩
  · exact .refl x

theorem reportCut_orders (b : Bool) : Orders s (reportCut r b s) := updateRecords_orders s (withReason_reported _ _ _ _)

theorem holds_of_forfeit {x : Rec} (h : x.isForfeit = true) (q : Res) : x.holds q = false := by simp [Rec.holds, h]

/-- R22, R9: a record that is FORFEIT already holds nothing and stays as it is. -/
theorem forfeitRecords_orders (w : ForfeitReason) : Orders s (forfeitRecords r w s) := by
  refine .of_records (storeTable_rm ..) (storeTable_fc ..) (storeTable_cp ..) (storeTable_mc ..) (storeTable_pe ..)
    (.of_map (f := fun x => if x.holds r then x.forfeited w else x) (fun i => ?_) fun x => ?_)
  · rw [forfeitRecords, storeTable_dt]
    exact slot_map_record _ _ _ i
  · cases hx : x.isForfeit
    · split
      · exact ⟨rfl, rfl, by simp [hx]⟩
      · exact .refl x
    · simp [holds_of_forfeit hx, Rec.Reported.refl x]

theorem reportShiftStart_orders : Orders s (reportShiftStart r s) := by
  refine updateRecords_orders s fun x => ?_
  cases hx : x.isForfeit
  · split
    · exact ⟨rfl, rfl, by simp [hx]⟩
    · exact .refl x
  · simp [holds_of_forfeit hx, Rec.Reported.refl x]

theorem reportShiftDone_orders : Orders s (reportShiftDone r s) := by
  refine updateRecords_orders s fun x => ?_
  cases hx : x.isForfeit
  · split
    · exact ⟨rfl, rfl, by simp [hx]⟩
    · exact .refl x
  · simp [holds_of_forfeit hx, Rec.Reported.refl x]

/-! ## The pump path, positions and stages -/

theorem checkPumpPath_orders : Orders s (checkPumpPath s) where
  fc := by simp
  cp := by simp
  pe := by simp
  mc := ⟨s.mc.splitTimer, s.mc.splitReported, by simp⟩
  closed := by simp
  adoption := by rw [checkPumpPath_rm]
  pathBoth := by simp
  slipTimer := by rw [checkPumpPath_rm]
  rearmTimer := by rw [checkPumpPath_rm]
  slipArmed := by rw [checkPumpPath_rm]
  orphan := fun q h => by simpa using h
  records := (checkPumpPath_records s).mono fun x y h => by
    obtain rfl | ⟨b, rfl⟩ := h
    · exact .refl _
    · exact withReason_reported _ _ _ _ _

theorem takeConfirm_orders : Orders s (takeConfirm r s) := by
  have taken : Orders s (s.setRes r { s.res r with conf := s.input r }) := (Orders.refl s).setRes id
  unfold takeConfirm; dsimp only
  repeat' split
  · exact .refl s
  · exact taken.setRm
  · exact taken

theorem driftLapses_orders : Orders s (driftLapses r s) := by
  unfold driftLapses; split
  · exact (Orders.refl s).setRes id
  · exact .refl s

theorem trySettle_orders : Orders s (trySettle s) := by
  unfold trySettle
  repeat' split
  · exact (Orders.refl s).setRm
  · exact .refl s
  · exact .refl s

theorem tryActuate_orders : Orders s (tryActuate s) := by
  have driven (q : Res) (b : Bool) : Orders s (s.setRes q { s.res q with cmd := b }) := (Orders.refl s).setRes id
  unfold tryActuate
  repeat' split
  · exact Orders.trans (driven _ _).setRm (trySettle_orders _)
  · exact .refl s
  · exact .refl s

theorem tryBounce_orders : Orders s (tryBounce s) := by
  unfold tryBounce
  repeat' split
  · exact (Orders.refl s).setRm
  · exact .refl s
  · exact .refl s

theorem stageChange_orders : Orders s (stageChange s) := by
  unfold stageChange
  repeat' split
  · exact tryActuate_orders s
  · exact trySettle_orders s
  · exact tryBounce_orders s
  · exact .refl s

theorem followConfirm_orders : Orders s (followConfirm r s) := by
  unfold followConfirm; split
  · exact .refl s
  · exact ((takeConfirm_orders s r).trans (driftLapses_orders _ r)).trans (checkPumpPath_orders _)

/-! ## The queue and the slot -/

theorem splitTakesSlot_orders : Orders s (splitTakesSlot r s) := by
  unfold splitTakesSlot; split
  · exact { Orders.refl s with mc := ⟨_, _, rfl⟩ }
  · exact .refl s

theorem slotTaken_orders (e : Entry) (rest : List Entry) : Orders s (slotTaken e rest s) := by
  have opened (t : State) (ht : Orders s t) : Orders s (splitTakesSlot e.res (t.setRes e.res
      { t.res e.res with driftTimer := none, driftArmed := true })) := by
    refine Orders.trans ?_ (splitTakesSlot_orders _ _)
    exact ht.setRes id
  unfold slotTaken; dsimp only
  split
  · exact (opened _ (Orders.refl s).setRm).trans (reportShiftStart_orders _ _)
  · exact opened _ (Orders.refl s).setRm

theorem startHead_orders : Orders s (startHead s) := by
  obtain e | ⟨e, rest, -, -, -, -, he⟩ := startHead_cases s
  · rw [e]; exact .refl s
  · rw [he]; exact (slotTaken_orders s e rest).trans (tryActuate_orders _)

theorem appendEntry_orders (op : ShiftOp) : Orders s (appendEntry r op s) := by
  unfold appendEntry; split
  · exact .refl s
  · exact (Orders.refl s).setRm.trans (startHead_orders _)

theorem withdraw_orders : Orders s (withdraw r s) := (Orders.refl s).setRm

theorem leaveSlot_orders : Orders s (leaveSlot r s) := (Orders.refl s).setRm.trans (takeConfirm_orders _ r)

theorem reevaluate_orders : Orders s (reevaluate r s) := by
  unfold reevaluate
  repeat' split
  all_goals first | exact .refl s | exact appendEntry_orders s r _

theorem cancelShift_orders : Orders s (cancelShift r s) :=
  (((leaveSlot_orders s r).trans (checkPumpPath_orders _)).trans (reevaluate_orders _ r)).trans (startHead_orders _)

theorem afterShift_orders : Orders s (afterShift r s) :=
  ((checkPumpPath_orders s).trans (reevaluate_orders _ r)).trans (startHead_orders _)

theorem becameWanted_orders : Orders s (becameWanted r s) := by
  unfold becameWanted
  repeat' split
  all_goals first
    | exact .refl s
    | exact withdraw_orders s r
    | exact cancelShift_orders s r
    | exact appendEntry_orders s r _

theorem stoppedWanted_orders : Orders s (stoppedWanted r s) := by
  unfold stoppedWanted
  repeat' split
  all_goals first
    | exact .refl s
    | exact withdraw_orders s r
    | exact cancelShift_orders s r
    | exact appendEntry_orders s r _

theorem holdersFewer_orders (n : Nat) : Orders s (holdersFewer r n s) := by
  have counted : Orders s (s.setRes r { s.res r with holders := (s.res r).holders - n }) := (Orders.refl s).setRes id
  unfold holdersFewer; dsimp only
  repeat' split
  · exact counted
  · exact counted.trans (stoppedWanted_orders _ r)
  · exact counted

theorem forfeitHolders_orders (w : ForfeitReason) : Orders s (forfeitHolders r w s) :=
  (forfeitRecords_orders s r w).trans (holdersFewer_orders _ r _)

theorem cutOut_orders : Orders s (cutOut r s) := by
  have cut : Orders s (s.setRes r { s.res r with cut := true, orphan := false }) := (Orders.refl s).setRes fun _ => rfl
  unfold cutOut; dsimp only
  split
  · refine Orders.trans ?_ (reportCut_orders _ r true)
    repeat' split
    · exact cut.trans (appendEntry_orders _ r _)
    · exact cut.trans (stoppedWanted_orders _ r)
    · exact cut
  · exact .refl s

theorem clearCut_orders : Orders s (clearCut r s) := by
  have cleared : Orders s (s.setRes r { s.res r with cut := false }) := (Orders.refl s).setRes id
  unfold clearCut; dsimp only
  split
  · refine Orders.trans ?_ (reportCut_orders _ r false)
    split
    · exact cleared.trans (becameWanted_orders _ r)
    · exact cleared
  · exact .refl s

theorem releaseOrphan_orders : Orders s (releaseOrphan r s) := by
  unfold releaseOrphan; split
  · exact ((Orders.refl s).setRes fun _ => rfl).trans (appendEntry_orders _ r _)
  · exact .refl s

theorem foldl_orders {f : State → Res → State} (h : ∀ s r, Orders s (f s r)) (l : List Res) :
    ∀ s, Orders s (l.foldl f s) := by
  induction l with
  | nil => exact fun s => .refl s
  | cons r l ih => exact fun s => (h s r).trans (ih _)

end
end Sys2Proof.Machine
end

section
/-! SUPPORT. The drift watches, the captures and the entry into lockdown: what each operation sets and what it leaves. -/
namespace Sys2Proof.Machine

section
variable (s : State) (r q : Res)

/-! ## Attention and captures -/

section
variable (c : Att)
@[simp] theorem raiseAtt_rm : (raiseAtt c s).rm = s.rm := rfl
@[simp] theorem raiseAtt_dt : (raiseAtt c s).dt = s.dt := rfl
@[simp] theorem raiseAtt_fc : (raiseAtt c s).fc = s.fc := rfl
@[simp] theorem raiseAtt_mc : (raiseAtt c s).mc = s.mc := rfl
@[simp] theorem raiseAtt_tk : (raiseAtt c s).tk = s.tk := rfl
@[simp] theorem raiseAtt_pe : (raiseAtt c s).pe = s.pe := rfl
@[simp] theorem raiseAtt_ps : (raiseAtt c s).ps = s.ps := rfl
@[simp] theorem raiseAtt_flags : (raiseAtt c s).cp.flags = s.cp.flags.insert c := rfl
@[simp] theorem raiseAtt_resync : (raiseAtt c s).cp.resync = s.cp.resync := rfl
@[simp] theorem raiseAtt_txn : (raiseAtt c s).cp.txn = s.cp.txn := rfl
end

section
variable (c : Cause) (w : Option Res)

/-- R164: a standard fault moves nothing but the capture and the STANDARD flag. -/
theorem standardFault_eq : ∃ f p, standardFault c w s = (s.setFc f).setCp p := by
  unfold standardFault; split
  · exact ⟨_, _, rfl⟩
  · exact ⟨{ s.fc with also := joinAlso c s.fc.also }, s.cp, rfl⟩

@[simp] theorem standardFault_rm : (standardFault c w s).rm = s.rm := by obtain ⟨f, p, e⟩ := standardFault_eq s c w; simp [e]
@[simp] theorem standardFault_dt : (standardFault c w s).dt = s.dt := by obtain ⟨f, p, e⟩ := standardFault_eq s c w; simp [e]
@[simp] theorem standardFault_mc : (standardFault c w s).mc = s.mc := by obtain ⟨f, p, e⟩ := standardFault_eq s c w; simp [e]
@[simp] theorem standardFault_tk : (standardFault c w s).tk = s.tk := by obtain ⟨f, p, e⟩ := standardFault_eq s c w; simp [e]
@[simp] theorem standardFault_pe : (standardFault c w s).pe = s.pe := by obtain ⟨f, p, e⟩ := standardFault_eq s c w; simp [e]
@[simp] theorem standardFault_res : (standardFault c w s).res q = s.res q := by simp [State.res]

@[simp] theorem standardFault_critical : (standardFault c w s).fc.critical = s.fc.critical := by
  unfold standardFault; split <;> rfl
@[simp] theorem standardFault_lockdown : (standardFault c w s).fc.lockdown = s.fc.lockdown := by
  unfold standardFault; split <;> rfl
@[simp] theorem standardFault_resync : (standardFault c w s).cp.resync = s.cp.resync := by
  unfold standardFault; split <;> rfl
@[simp] theorem standardFault_wanted : (standardFault c w s).wanted q = s.wanted q := by simp [State.wanted]

variable {s} in
/-- R164: an empty slot takes the capture, and STANDARD is set. -/
theorem standardFault_captures (h : s.fc.standard = none) : (standardFault c w s).fc.standard = some (s.snapshot c w)
    ∧ (standardFault c w s).cp.flags.standard = true := by
  unfold standardFault
  rw [h]
  exact ⟨rfl, rfl⟩

/-- R165: what fills the critical slot moves neither the Resource Manager nor the Mode Controller. -/
theorem fillCritical_rm : (fillCritical c w s).rm = s.rm := by simp [fillCritical, criticalResponse, reportCritical, setReason]
theorem fillCritical_mc : (fillCritical c w s).mc = s.mc := by simp [fillCritical, criticalResponse, reportCritical, setReason]
theorem fillCritical_pe : (fillCritical c w s).pe = s.pe := by simp [fillCritical, criticalResponse, reportCritical, setReason]
theorem fillCritical_tk : (fillCritical c w s).tk = s.tk := by simp [fillCritical, criticalResponse, reportCritical, setReason]
theorem fillCritical_fc : (fillCritical c w s).fc = { s.fc with critical := some (s.snapshot c w) } := by
  simp [fillCritical, criticalResponse, reportCritical, setReason]
theorem fillCritical_cp : (fillCritical c w s).cp.flags = { s.cp.flags with critical := true }
    ∧ (fillCritical c w s).cp.resync = s.cp.resync ∧ (fillCritical c w s).cp.txn = s.cp.txn := by
  simp [fillCritical, criticalResponse, reportCritical, setReason, AttSet.insert]

/-- R23: the table with CRITICAL placed on the pump records. -/
def criticalTable : DT := { s.dt with slots := s.dt.slots.map (Slot.mapRec (Rec.withReason s.rm .critical true Rec.isPump)) }

theorem fillCritical_dt : (fillCritical c w s).dt = criticalTable s := by
  simp [fillCritical, criticalResponse, reportCritical, setReason, updateRecords_dt, criticalTable]

end

/-! ## The drift watches (R45) -/

/-- A resource record apart from its drift watch. -/
def ResRec.core (x : ResRec) : ResRec := { x with driftTimer := none, driftArmed := true }

/-- The Resource Manager apart from its drift watches. -/
def RM.core (m : RM) : RM := { m with split := m.split.core, ptor := m.ptor.core, ptoa := m.ptoa.core, ptob := m.ptob.core }

theorem RM.get_core {m n : RM} (h : m.core = n.core) (q : Res) : (m.get q).core = (n.get q).core := by
  cases q
  · exact congrArg RM.split h
  · exact congrArg RM.ptor h
  · exact congrArg RM.ptoa h
  · exact congrArg RM.ptob h

variable {s} in
theorem res_core {t : State} (h : t.rm.core = s.rm.core) (q : Res) : (t.res q).core = (s.res q).core := RM.get_core h q

/-- The record of a resource once the watch has seen a condition that does not hold. -/
def State.lapsed (s : State) (q : Res) : ResRec :=
  if s.ps.validated && !s.driftCondition q then { s.res q with driftTimer := none, driftArmed := true } else s.res q

/-- The record of a resource once its watch has evaluated. -/
def State.watched (s : State) (q : Res) : ResRec :=
  if s.ps.validated && s.driftCondition q && (s.res q).driftTimer.isNone && (s.res q).driftArmed then
    { s.res q with driftTimer := some s.par.confirmTime }
  else s.lapsed q

theorem driftLapses_eq : driftLapses r s = s.setRes r (s.lapsed r) := by
  unfold driftLapses State.lapsed
  split
  · rfl
  · rw [setRes_self]

theorem driftWatch_eq : driftWatch r s = s.setRes r (s.watched r) := by
  unfold driftWatch State.watched
  split
  · rfl
  · rw [driftLapses_eq]

theorem lapsed_core : (s.lapsed q).core = (s.res q).core := by unfold State.lapsed; split <;> rfl
theorem watched_core : (s.watched q).core = (s.res q).core := by
  unfold State.watched; split
  · rfl
  · exact lapsed_core s q

theorem setRes_core {x : ResRec} (h : x.core = (s.res r).core) : (s.setRes r x).rm.core = s.rm.core := by
  cases r <;> simp_all [State.setRes, State.res, RM.put, RM.get, RM.core]

section
variable {s} {t : State} (h : t.rm.core = s.rm.core)
include h

theorem core_cmd (q : Res) : (t.res q).cmd = (s.res q).cmd := by have e := congrArg ResRec.cmd (res_core h q); exact e
theorem core_conf (q : Res) : (t.res q).conf = (s.res q).conf := by have e := congrArg ResRec.conf (res_core h q); exact e
theorem core_holders (q : Res) : (t.res q).holders = (s.res q).holders := by
  have e := congrArg ResRec.holders (res_core h q); exact e
theorem core_orphan (q : Res) : (t.res q).orphan = (s.res q).orphan := by
  have e := congrArg ResRec.orphan (res_core h q); exact e
theorem core_shift : t.rm.shift = s.rm.shift := by have e := congrArg RM.shift h; exact e
theorem core_queue : t.rm.queue = s.rm.queue := by have e := congrArg RM.queue h; exact e
theorem core_closed : t.rm.closed = s.rm.closed := by have e := congrArg RM.closed h; exact e
theorem core_adoption : t.rm.adoption = s.rm.adoption := by have e := congrArg RM.adoption h; exact e
theorem core_stuck : t.rm.stuck = s.rm.stuck := by have e := congrArg RM.stuck h; exact e
theorem core_pumpPath : t.rm.pumpPath = s.rm.pumpPath := by have e := congrArg RM.pumpPath h; exact e
theorem core_pathBoth : t.rm.pathBoth = s.rm.pathBoth := by have e := congrArg RM.pathBoth h; exact e
theorem core_slipTimer : t.rm.slipTimer = s.rm.slipTimer := by have e := congrArg RM.slipTimer h; exact e
theorem core_rearmTimer : t.rm.rearmTimer = s.rm.rearmTimer := by have e := congrArg RM.rearmTimer h; exact e
theorem core_slipArmed : t.rm.slipArmed = s.rm.slipArmed := by have e := congrArg RM.slipArmed h; exact e

/-- The condition of a watch is apart from the watches. -/
theorem driftCondition_core (q : Res) : t.driftCondition q = s.driftCondition q := by
  simp [State.driftCondition, core_conf h, core_cmd h, core_stuck h, RM.shiftOf, core_shift h]

theorem lapsed_congr (hp : t.ps = s.ps) {q : Res} (hr : t.res q = s.res q) : t.lapsed q = s.lapsed q := by
  simp only [State.lapsed, driftCondition_core h, hp, hr]

theorem watched_congr (hp : t.ps = s.ps) (hc : t.par = s.par) {q : Res} (hr : t.res q = s.res q) :
    t.watched q = s.watched q := by
  simp only [State.watched, lapsed_congr h hp hr, driftCondition_core h, hp, hr, hc]

end

/-- Four records stored one after the other, each from what it is before. -/
theorem foldl_setRes {g : State → Res → ResRec} (hc : ∀ s q, (g s q).core = (s.res q).core)
    (hg : ∀ s r q, q ≠ r → g (s.setRes r (g s r)) q = g s q) :
    ∃ m, allRes.foldl (fun s r => s.setRes r (g s r)) s = s.setRm m ∧ m.core = s.rm.core ∧ ∀ q, m.get q = g s q := by
  let s1 := s.setRes .split (g s .split)
  let s2 := s1.setRes .ptor (g s1 .ptor)
  let s3 := s2.setRes .ptoa (g s2 .ptoa)
  have e1 (q : Res) (h : q ≠ .split) : g s1 q = g s q := hg s _ q h
  have e2 (q : Res) (h : q ≠ .split) (k : q ≠ .ptor) : g s2 q = g s q := (hg s1 _ q k).trans (e1 q h)
  have e3 : g s3 .ptob = g s .ptob := (hg s2 _ _ (by decide)).trans (e2 _ (by decide) (by decide))
  refine ⟨(s3.setRes .ptob (g s3 .ptob)).rm, rfl, ?_, ?_⟩
  · exact (setRes_core _ _ (hc _ _)).trans ((setRes_core _ _ (hc _ _)).trans ((setRes_core _ _ (hc _ _)).trans
      (setRes_core _ _ (hc _ _))))
  · intro q
    cases q
    · rfl
    · exact e1 _ (by decide)
    · exact e2 _ (by decide) (by decide)
    · exact e3

theorem lapsed_other (h : q ≠ r) : (s.setRes r (s.lapsed r)).lapsed q = s.lapsed q :=
  lapsed_congr (setRes_core s r (lapsed_core s r)) rfl (setRes_res_other s r q _ h)

theorem watched_other (h : q ≠ r) : (s.setRes r (s.watched r)).watched q = s.watched q :=
  watched_congr (setRes_core s r (watched_core s r)) rfl rfl (setRes_res_other s r q _ h)

/-- R45: all four watches look at their conditions. -/
theorem lapses_all : ∃ m, allRes.foldl (fun s r => driftLapses r s) s = s.setRm m ∧ m.core = s.rm.core
    ∧ ∀ q, m.get q = s.lapsed q := by
  simp only [driftLapses_eq]
  exact foldl_setRes s lapsed_core (fun s r q h => lapsed_other s r q h)

theorem driftWatch_all : ∃ m, allRes.foldl (fun s r => driftWatch r s) s = s.setRm m ∧ m.core = s.rm.core
    ∧ ∀ q, m.get q = s.watched q := by
  simp only [driftWatch_eq]
  exact foldl_setRes s watched_core (fun s r q h => watched_other s r q h)

/-- The position watches move nothing but their own timers and flags. -/
theorem positionWatches_eq : ∃ m a b, positionWatches s = (s.setMc { s.mc with splitTimer := a, splitReported := b }).setRm m
    ∧ m.core = s.rm.core ∧ ∀ q, m.get q = s.watched q := by
  have split : ∃ a b, splitWatch s = s.setMc { s.mc with splitTimer := a, splitReported := b } := by
    unfold splitWatch
    repeat' split
    · exact ⟨s.mc.splitTimer, s.mc.splitReported, rfl⟩
    · exact ⟨_, s.mc.splitReported, rfl⟩
    · exact ⟨s.mc.splitTimer, s.mc.splitReported, rfl⟩
    · exact ⟨_, _, rfl⟩
  obtain ⟨a, b, e⟩ := split
  obtain ⟨m, em, ec, eg⟩ := driftWatch_all (splitWatch s)
  have w (q : Res) : (splitWatch s).watched q = s.watched q := by
    rw [e]; cases q <;> rfl
  refine ⟨m, a, b, ?_, ?_, fun q => (eg q).trans (w q)⟩
  · unfold positionWatches
    rw [em, e]
  · rw [ec, e]; rfl

end
end Sys2Proof.Machine
end

section
/-! SUPPORT. The entry into lockdown (R167) and the two ways a critical condition is taken: the capture of an empty slot or lockdown. -/
namespace Sys2Proof.Machine

section
variable (s : State) (r q : Res)

/-! ## The mode (R67) -/

/-- R67: a derivation of the mode moves the Mode Controller, the governor and the MODE_CHANGED flag. -/
theorem deriveMode_eq : ∃ (g : PG) (p : Bool × Range) (f : CP), deriveMode s = ((s.setMc { s.mc with
    derived := true, mode := s.modeOf, parkhold := p.1, range := p.2 }).setPg g).setCp f
      ∧ f.flags = { s.cp.flags with modeChanged := s.cp.flags.modeChanged || decide (s.modeOf ≠ s.mc.mode) }
      ∧ f.resync = s.cp.resync ∧ f.txn = s.cp.txn := by
  have same : (s.setMc { s.mc with derived := true }).modeOf = s.modeOf := rfl
  unfold deriveMode setMode; dsimp only
  rw [same]
  split
  · rename_i h
    refine ⟨s.pg, (s.mc.parkhold, s.mc.range), s.cp, ?_, ?_, rfl, rfl⟩
    · rw [h]; rfl
    · have h : s.modeOf = s.mc.mode := h
      simp [h]
  · rename_i h
    have h : s.modeOf ≠ s.mc.mode := h
    split
    · obtain ⟨g, e⟩ := govOff_eq (raiseAtt .modeChanged ((s.setMc { s.mc with derived := true }).setMc
        { (s.setMc { s.mc with derived := true }).mc with
          mode := s.modeOf, parkhold := parkholdOf s.modeOf, range := rangeOf s.modeOf }))
      rw [e]
      exact ⟨g, (parkholdOf s.modeOf, rangeOf s.modeOf), _, rfl, by simp [AttSet.insert, h], rfl, rfl⟩
    · exact ⟨s.pg, (parkholdOf s.modeOf, rangeOf s.modeOf), _, rfl, by simp [AttSet.insert, h], rfl, rfl⟩

@[simp] theorem deriveMode_rm : (deriveMode s).rm = s.rm := by obtain ⟨g, p, f, e, -⟩ := deriveMode_eq s; simp [e]
@[simp] theorem deriveMode_dt : (deriveMode s).dt = s.dt := by obtain ⟨g, p, f, e, -⟩ := deriveMode_eq s; simp [e]
@[simp] theorem deriveMode_fc : (deriveMode s).fc = s.fc := by obtain ⟨g, p, f, e, -⟩ := deriveMode_eq s; simp [e]
@[simp] theorem deriveMode_tk : (deriveMode s).tk = s.tk := by obtain ⟨g, p, f, e, -⟩ := deriveMode_eq s; simp [e]
@[simp] theorem deriveMode_pe : (deriveMode s).pe = s.pe := by obtain ⟨g, p, f, e, -⟩ := deriveMode_eq s; simp [e]
@[simp] theorem deriveMode_resync : (deriveMode s).cp.resync = s.cp.resync := by
  obtain ⟨g, p, f, e, -, h, -⟩ := deriveMode_eq s; simp [e, h]
@[simp] theorem deriveMode_txn : (deriveMode s).cp.txn = s.cp.txn := by
  obtain ⟨g, p, f, e, -, -, h⟩ := deriveMode_eq s; simp [e, h]
@[simp] theorem deriveMode_mode : (deriveMode s).mc.mode = s.modeOf := by obtain ⟨g, p, f, e, -⟩ := deriveMode_eq s; simp [e]
@[simp] theorem deriveMode_derived : (deriveMode s).mc.derived = true := by obtain ⟨g, p, f, e, -⟩ := deriveMode_eq s; simp [e]
@[simp] theorem deriveMode_sp : (deriveMode s).mc.sp = s.mc.sp := by obtain ⟨g, p, f, e, -⟩ := deriveMode_eq s; simp [e]
@[simp] theorem deriveMode_parkEp : (deriveMode s).mc.parkEp = s.mc.parkEp := by
  obtain ⟨g, p, f, e, -⟩ := deriveMode_eq s; simp [e]
@[simp] theorem deriveMode_motionEp : (deriveMode s).mc.motionEp = s.mc.motionEp := by
  obtain ⟨g, p, f, e, -⟩ := deriveMode_eq s; simp [e]
@[simp] theorem deriveMode_accepted : (deriveMode s).mc.accepted = s.mc.accepted := by
  obtain ⟨g, p, f, e, -⟩ := deriveMode_eq s; rw [e]; rfl
@[simp] theorem deriveMode_splitPos : (deriveMode s).mc.splitPos = s.mc.splitPos := by
  obtain ⟨g, p, f, e, -⟩ := deriveMode_eq s; rw [e]; rfl
@[simp] theorem deriveMode_roadSum : (deriveMode s).pcu.roadSum = s.pcu.roadSum := by rw [(deriveMode_kept s).pcu]
@[simp] theorem deriveMode_par : (deriveMode s).par = s.par := (deriveMode_kept s).par

theorem deriveMode_flags : (deriveMode s).cp.flags =
    { s.cp.flags with modeChanged := s.cp.flags.modeChanged || decide (s.modeOf ≠ s.mc.mode) } := by
  obtain ⟨g, p, f, e, h, -⟩ := deriveMode_eq s; simp [e, h]

theorem modeOf_lockdown {s : State} (h : s.fc.lockdown = true) : s.modeOf = .lockdown := by simp [State.modeOf, h]

@[simp] theorem evaluateScopes_rm : (evaluateScopes s).rm = s.rm := rfl
@[simp] theorem evaluateScopes_dt : (evaluateScopes s).dt = s.dt := rfl
@[simp] theorem evaluateScopes_fc : (evaluateScopes s).fc = s.fc := rfl
@[simp] theorem evaluateScopes_cp : (evaluateScopes s).cp = s.cp := rfl
@[simp] theorem evaluateScopes_tk : (evaluateScopes s).tk = s.tk := rfl
@[simp] theorem evaluateScopes_pe : (evaluateScopes s).pe = s.pe := rfl
@[simp] theorem evaluateScopes_ps : (evaluateScopes s).ps = s.ps := rfl
@[simp] theorem evaluateScopes_mode : (evaluateScopes s).mc.mode = s.mc.mode := rfl
@[simp] theorem evaluateScopes_derived : (evaluateScopes s).mc.derived = s.mc.derived := rfl

/-! ## The end of an apply (R157) -/

/-- A released slot held no record. -/
theorem releaseSlots_record (g : List Descriptor) (l : List Nat) : ∀ (x : List Slot) (i : Nat),
    ((DT.mk (releaseSlots x l) g).slot i).record = ((DT.mk x g).slot i).record := by
  induction l with
  | nil => exact fun _ _ => rfl
  | cons j l ih =>
    intro x i
    rw [releaseSlots, ih]
    split
    · rename_i hj
      unfold DT.slot
      by_cases hi : i = j
      · subst i
        simp only [List.getD_eq_getElem?_getD, List.getElem?_set] at hj ⊢
        cases hx : x[j]? with
        | none =>
          rw [hx] at hj
          cases hj
        | some y =>
          have len : j < x.length := by
            obtain ⟨h, -⟩ := List.getElem?_eq_some_iff.1 hx
            exact h
          rw [hx] at hj
          have hy : y.cond = .reserved := by simpa using hj
          simp [len, Slot.emptied, Slot.record, hy]
      · simp [List.getD_eq_getElem?_getD, Ne.symm hi]
    · rfl

section
variable (w : AbandonReason) (i : Option Nat)

theorem abandonApply_eq : ∃ l e c, abandonApply w i s = ((s.setDt { s.dt with slots := l }).setPe e).setCp c ∧ e.apply = none
    ∧ c.flags = { s.cp.flags with presetDone := s.cp.flags.presetDone || s.pe.apply.isSome }
    ∧ c.resync = s.cp.resync ∧ c.txn = s.cp.txn
    ∧ ∀ i, ((DT.mk l s.dt.governing).slot i).record = (s.dt.slot i).record := by
  unfold abandonApply
  split
  · rename_i h
    exact ⟨s.dt.slots, s.pe, s.cp, rfl, h, by simp [h], rfl, rfl, fun _ => rfl⟩
  · rename_i a h
    exact ⟨_, _, _, rfl, rfl, by simp [h, AttSet.insert], rfl, rfl, fun j => releaseSlots_record s.dt.governing _ _ j⟩

@[simp] theorem abandonApply_rm : (abandonApply w i s).rm = s.rm := by obtain ⟨l, e, c, h, -⟩ := abandonApply_eq s w i; simp [h]
@[simp] theorem abandonApply_fc : (abandonApply w i s).fc = s.fc := by obtain ⟨l, e, c, h, -⟩ := abandonApply_eq s w i; simp [h]
@[simp] theorem abandonApply_mc : (abandonApply w i s).mc = s.mc := by obtain ⟨l, e, c, h, -⟩ := abandonApply_eq s w i; simp [h]
@[simp] theorem abandonApply_tk : (abandonApply w i s).tk = s.tk := by obtain ⟨l, e, c, h, -⟩ := abandonApply_eq s w i; simp [h]
@[simp] theorem abandonApply_apply : (abandonApply w i s).pe.apply = none := by
  obtain ⟨l, e, c, h, k, -⟩ := abandonApply_eq s w i; simp [h, k]
@[simp] theorem abandonApply_flags : (abandonApply w i s).cp.flags =
    { s.cp.flags with presetDone := s.cp.flags.presetDone || s.pe.apply.isSome } := by
  obtain ⟨l, e, c, h, -, k, -⟩ := abandonApply_eq s w i; simp [h, k]
@[simp] theorem abandonApply_resync : (abandonApply w i s).cp.resync = s.cp.resync := by
  obtain ⟨l, e, c, h, -, -, k, -⟩ := abandonApply_eq s w i; simp [h, k]
@[simp] theorem abandonApply_txn : (abandonApply w i s).cp.txn = s.cp.txn := by
  obtain ⟨l, e, c, h, -, -, -, k, -⟩ := abandonApply_eq s w i; simp [h, k]
theorem abandonApply_record (j : Nat) : ((abandonApply w i s).dt.slot j).record = (s.dt.slot j).record := by
  obtain ⟨l, e, c, h, -, -, -, -, k⟩ := abandonApply_eq s w i
  rw [h]
  exact k j

end

/-! ## The table in lockdown (R25) -/

variable {s} in
/-- R31: in lockdown a holder report changes the count alone. -/
theorem holdersFewer_lockdown (h : s.fc.lockdown = true) (n : Nat) :
    holdersFewer r n s = s.setRes r { s.res r with holders := (s.res r).holders - n } := by
  simp [holdersFewer, h]

/-- The Resource Manager whose holders are counted down. -/
def RM.fewer (m : RM) (n : Res → Nat) : RM := { m with
  split := { m.split with holders := m.split.holders - n .split }, ptor := { m.ptor with holders := m.ptor.holders - n .ptor },
  ptoa := { m.ptoa with holders := m.ptoa.holders - n .ptoa }, ptob := { m.ptob with holders := m.ptob.holders - n .ptob } }

variable {s} in
theorem holdersFewer_all (h : s.fc.lockdown = true) (n : Res → Nat) :
    allRes.foldl (fun s r => holdersFewer r (n r) s) s = s.setRm (s.rm.fewer n) := by
  simp only [allRes, List.foldl_cons, List.foldl_nil]
  rw [holdersFewer_lockdown .split h, holdersFewer_lockdown .ptor (by simpa using h),
    holdersFewer_lockdown .ptoa (by simpa using h), holdersFewer_lockdown .ptob (by simpa using h)]
  rfl

variable {s} in
/-- R25: in lockdown every record is FORFEIT and the governing list empty; the holders are counted down. -/
theorem tableLockdown_eq (h : s.fc.lockdown = true) : tableLockdown s = recomputeDraws
    ((storeTable { slots := s.dt.slots.map (Slot.mapRec (Rec.forfeited .lockdown)), governing := [] } s).setRm
      (s.rm.fewer s.dt.holdersOf)) := by
  unfold tableLockdown; dsimp only
  rw [holdersFewer_all (by simpa using h), storeTable_rm]

theorem fewer_get (m : RM) (n : Res → Nat) : (m.fewer n).get q = { m.get q with holders := (m.get q).holders - n q } := by
  cases q <;> rfl

/-! ## The resources in lockdown (R54) -/

/-- The Resource Manager with its lockdown commands. -/
def RM.locked (m : RM) (p : Params) : RM := { m with
  split := m.split.lockdown p .split, ptor := m.ptor.lockdown p .ptor, ptoa := m.ptoa.lockdown p .ptoa,
  ptob := m.ptob.lockdown p .ptob, adoption := none }

theorem locked_get (m : RM) (p : Params) : (m.locked p).get q = (m.get q).lockdown p q := by cases q <;> rfl

/-- R54: the shift in flight stops where it stands. -/
def shiftStopped (s : State) : State :=
  match s.rm.shift with
  | some sh => checkPumpPath (leaveSlot sh.res s)
  | none => s

theorem resourcesLockdown_eq : ∃ m, resourcesLockdown s = (shiftStopped (s.setRm { s.rm with queue := [] })).setRm m
    ∧ m.core = ((shiftStopped (s.setRm { s.rm with queue := [] })).rm.locked s.par).core
    ∧ ∀ q, m.get q = ((shiftStopped (s.setRm { s.rm with queue := [] })).setRm
        ((shiftStopped (s.setRm { s.rm with queue := [] })).rm.locked s.par)).lapsed q := by
  have par : (shiftStopped (s.setRm { s.rm with queue := [] })).par = s.par := by
    unfold shiftStopped
    split
    · rw [(checkPumpPath_kept _).par, leaveSlot_par, State.setRm_par]
    · rfl
  obtain ⟨m, e, c, g⟩ := lapses_all ((shiftStopped (s.setRm { s.rm with queue := [] })).setRm
    ((shiftStopped (s.setRm { s.rm with queue := [] })).rm.locked s.par))
  refine ⟨m, ?_, c, g⟩
  conv at e => lhs; rw [← par]
  exact e

end
end Sys2Proof.Machine
end

section
/-! SUPPORT. The draw totals and the valves (R143, R146, R147): what leaves them standing right and what sets them right. -/
namespace Sys2Proof.Machine

/-! ## What a record draws -/

/-- All that the draw totals and the valves read of a record. -/
def Rec.drawing (r : Rec) : Nat × Nat × Nat × Bool :=
  (waterOf r, concentrateOf .t1 r, concentrateOf .t2 r, decide (r.state = .active) && r.fromTank)

theorem waterDraw_eq (r : Rec) : r.waterDraw = waterOf r := by
  unfold Rec.waterDraw waterOf; rfl

theorem foamDraw_eq (t : FoamTank) (r : Rec) : r.foamDraw t = concentrateOf t r := by
  unfold Rec.foamDraw concentrateOf; rfl

/-- Only a DISCHARGE record draws. -/
theorem drawing_of_not_discharge {r : Rec} (h : r.isDischarge = false) : r.drawing = (0, 0, 0, false) := by
  obtain ⟨d, n, st, rs, l, ch⟩ := r
  cases d with
  | discharge o src flow f => cases h
  | pumpStat g sp => cases st <;> rfl
  | pumpRoll g sp => cases st <;> rfl
  | aux t => cases st <;> rfl

theorem drawing_withReason {m : RM} {h : HoldReason} {b : Bool} {p : Rec → Bool} (k : ∀ r, p r = true → r.isDischarge = false)
    (r : Rec) : (Rec.withReason m h b p r).drawing = r.drawing := by
  unfold Rec.withReason
  split
  · rfl
  · rename_i hx
    have hd := k r (by simp_all)
    rw [drawing_of_not_discharge hd, drawing_of_not_discharge]
    exact hd

theorem not_discharge_of_isPump (r : Rec) (h : r.isPump = true) : r.isDischarge = false := by
  obtain ⟨d, n, st, rs, l, ch⟩ := r
  cases d <;> first | rfl | cases h

theorem not_discharge_of_holds {r : Rec} {q : Res} (h : r.holds q = true) : r.isDischarge = false := by
  obtain ⟨d, n, st, rs, l, ch⟩ := r
  cases d with
  | discharge o src flow f => cases h
  | pumpStat g sp => rfl
  | pumpRoll g sp => rfl
  | aux t => rfl

/-! ## The records of two tables -/

theorem filterMap_record_map {α : Type} (f : Rec → α) : ∀ l k : List Slot,
    (∀ i, (l.getD i Slot.reset).record.map f = (k.getD i Slot.reset).record.map f) →
    (l.filterMap Slot.record).map f = (k.filterMap Slot.record).map f := by
  have cons (x : Slot) (l : List Slot) : ((x :: l).filterMap Slot.record).map f =
      (x.record.map f).toList ++ (l.filterMap Slot.record).map f := by
    cases hx : x.record <;> simp [hx]
  intro l
  induction l with
  | nil =>
    intro k
    induction k with
    | nil => exact fun _ => rfl
    | cons y k ih =>
      intro h
      have head : none = y.record.map f := h 0
      rw [cons, ← head, ← ih fun i => h (i + 1)]
      rfl
  | cons x l ih =>
    intro k h
    cases k with
    | nil =>
      have head : x.record.map f = none := h 0
      rw [cons, head, ih [] fun i => h (i + 1)]
      rfl
    | cons y k =>
      have head : x.record.map f = y.record.map f := h 0
      rw [cons, cons, head, ih k fun i => h (i + 1)]

section
variable {s t : State}

/-- A property of the records that every move keeps is kept for the table. -/
theorem Moves.records_map {α : Type} {P : Rec → Rec → Prop} {f : Rec → α} (h : Moves P s t) (k : ∀ r r', P r r' → f r' = f r) :
    t.dt.records.map f = s.dt.records.map f := by
  refine filterMap_record_map f _ _ fun i => ?_
  change (t.dt.slot i).record.map f = (s.dt.slot i).record.map f
  cases hr : (s.dt.slot i).record with
  | none =>
    cases ht : (t.dt.slot i).record with
    | none => rfl
    | some r' =>
      obtain ⟨r, hx, -⟩ := h.back ht
      cases hr.symm.trans hx
  | some r =>
    obtain ⟨r', ht, p⟩ := h.forward hr
    rw [ht]
    exact congrArg some (k r r' p)

/-! ## Draws and valves -/

theorem totalOf_congr {α : Type} {d : Rec → α} (g : α → Nat) (e : t.dt.records.map d = s.dt.records.map d) (k : Tank) :
    totalOf t k (fun r => g (d r)) = totalOf s k (fun r => g (d r)) := by
  have e := congrArg (List.map g) e
  rw [List.map_map, List.map_map] at e
  exact congrArg (fun l => if k.state = .absent then 0 else List.sum l) e

theorem tanked_iff (s : State) : (∃ r ∈ s.dt.records, r.state = .active ∧ r.fromTank = true) ↔
    ∃ x ∈ s.dt.records.map Rec.drawing, x.2.2.2 = true := by
  simp [Rec.drawing]

/-- Draws and valves that stand right do so where the tanks, the pump path, the lockdown flag and what the records draw stand. -/
theorem draws_stand (h : DrawsAgree s) (htk : t.tk = s.tk) (hp : t.rm.pumpPath = s.rm.pumpPath)
    (hl : t.fc.lockdown = s.fc.lockdown) (hd : t.dt.records.map Rec.drawing = s.dt.records.map Rec.drawing) : DrawsAgree t := by
  have water (k : Tank) : totalOf t k waterOf = totalOf s k waterOf := totalOf_congr (d := Rec.drawing) Prod.fst hd k
  have foam1 (k : Tank) : totalOf t k (concentrateOf .t1) = totalOf s k (concentrateOf .t1) :=
    totalOf_congr (d := Rec.drawing) (fun x => x.2.1) hd k
  have foam2 (k : Tank) : totalOf t k (concentrateOf .t2) = totalOf s k (concentrateOf .t2) :=
    totalOf_congr (d := Rec.drawing) (fun x => x.2.2.1) hd k
  have tanked : (∃ r ∈ t.dt.records, r.state = .active ∧ r.fromTank = true) ↔
      ∃ r ∈ s.dt.records, r.state = .active ∧ r.fromTank = true := by rw [tanked_iff, tanked_iff, hd]
  unfold DrawsAgree
  rw [htk, hp, hl, water, foam1, foam2, tanked]
  exact h

theorem draws_stand_dt (h : DrawsAgree s) (htk : t.tk = s.tk) (hp : t.rm.pumpPath = s.rm.pumpPath)
    (hl : t.fc.lockdown = s.fc.lockdown) (hd : t.dt = s.dt) : DrawsAgree t := draws_stand h htk hp hl (by rw [hd])

theorem tankValve_iff (s : State) : s.tankValve = true ↔ s.rm.pumpPath = true
    ∧ (∃ r ∈ s.dt.records, r.state = .active ∧ r.fromTank = true) ∧ s.tk.t0.state ≠ .vol .empty ∧ s.fc.lockdown = false := by
  simp only [State.tankValve, Bool.and_eq_true, List.any_eq_true, beq_iff_eq, bne_iff_ne, Bool.not_eq_true', and_assoc]

/-- R146, R147: an evaluation of the valves sets them right beside right totals. -/
theorem driveValves_agree (h0 : s.tk.t0.draw = totalOf s s.tk.t0 waterOf) (h1 : s.tk.t1.draw = totalOf s s.tk.t1 (concentrateOf .t1))
    (h2 : s.tk.t2.draw = totalOf s s.tk.t2 (concentrateOf .t2)) : DrawsAgree (driveValves s) := by
  have foam (n : Nat) : (decide (0 < n) && !s.fc.lockdown) = true ↔ 0 < n ∧ s.fc.lockdown = false := by simp
  exact ⟨h0, h1, h2, tankValve_iff s, foam _, foam _⟩

theorem withDraw_total (k : Tank) (f : Rec → Nat) (g : Rec → Nat) (e : f = g) :
    (k.withDraw (s.dt.records.map f).sum).draw = totalOf s (k.withDraw (s.dt.records.map f).sum) g := by
  subst e
  unfold Tank.withDraw Tank.withTte totalOf
  split <;> simp_all

/-- R143: a recomputation sets totals and valves right. -/
theorem recomputeDraws_agree (s : State) : DrawsAgree (recomputeDraws s) :=
  driveValves_agree (withDraw_total s.tk.t0 _ _ (funext waterDraw_eq)) (withDraw_total s.tk.t1 _ _ (funext (foamDraw_eq .t1)))
    (withDraw_total s.tk.t2 _ _ (funext (foamDraw_eq .t2)))

theorem driveValves_agrees (h : DrawsAgree s) : DrawsAgree (driveValves s) := by
  obtain ⟨h0, h1, h2, -⟩ := h
  exact driveValves_agree h0 h1 h2

theorem govOff_agrees (h : DrawsAgree s) : DrawsAgree (govOff s) := draws_stand_dt h (by simp) (by simp) (by simp) (by simp)

theorem checkPumpPath_agrees (h : DrawsAgree s) : DrawsAgree (checkPumpPath s) := by
  have told (b : Bool) (t : State) : DrawsAgree (driveValves (reportPumpPath b t)) := driveValves_agrees (recomputeDraws_agree _)
  unfold checkPumpPath; dsimp only
  split
  · exact h
  · split
    · exact told _ _
    · exact govOff_agrees (told _ _)

theorem evaluateSuspensions_agrees (h : DrawsAgree s) : DrawsAgree (evaluateSuspensions s) := by
  unfold evaluateSuspensions; dsimp only
  split
  · exact h
  · exact recomputeDraws_agree _

theorem deriveMode_agrees (h : DrawsAgree s) : DrawsAgree (deriveMode s) :=
  draws_stand_dt h (by simp) (by simp) (by simp) (by simp)

theorem leaveSlot_agrees (r : Res) (h : DrawsAgree s) : DrawsAgree (leaveSlot r s) :=
  draws_stand_dt h (by simp) (by simp) (by simp) (by simp)

/-- R22: what a shift's end tells its holders changes no draw. -/
theorem reportShiftDone_agrees (r : Res) (h : DrawsAgree s) : DrawsAgree (reportShiftDone r s) := by
  have moved : Moves (fun x y => y = if x.holds r then service s.rm x else x) s (reportShiftDone r s) :=
    .of_map (updateRecords_record s _) fun x => rfl
  refine draws_stand h (updateRecords_tk s _) (congrArg RM.pumpPath (updateRecords_rm s _))
    (congrArg FC.lockdown (updateRecords_fc s _)) (moved.records_map fun x y e => ?_)
  rw [e]
  split
  · rename_i hx
    rw [drawing_of_not_discharge (not_discharge_of_holds hx), drawing_of_not_discharge]
    exact not_discharge_of_holds (r := x) hx
  · rfl

/-! ## Lockdown -/

theorem resourcesLockdown_agrees (h : DrawsAgree s) : DrawsAgree (resourcesLockdown s) := by
  obtain ⟨m, e, c, -⟩ := resourcesLockdown_eq s
  have stopped : DrawsAgree (shiftStopped (s.setRm { s.rm with queue := [] })) := by
    unfold shiftStopped
    split
    · exact checkPumpPath_agrees (leaveSlot_agrees _ (draws_stand_dt h rfl rfl rfl rfl))
    · exact draws_stand_dt h rfl rfl rfl rfl
  rw [e]
  exact draws_stand_dt stopped rfl (congrArg RM.pumpPath c :) rfl rfl

/-- R143, R146, R147: draws and valves stand right in a part that has entered lockdown. -/
theorem enterLockdown_agrees (s : State) (c : Cause) (w : Option Res) : DrawsAgree (enterLockdown c w s) := by
  have table (u : State) : DrawsAgree (tableLockdown u) := recomputeDraws_agree _
  exact draws_stand_dt (deriveMode_agrees (driveValves_agrees (resourcesLockdown_agrees (table _)))) rfl rfl rfl rfl

end
end Sys2Proof.Machine
end

section
/-! SUPPORT. The two ways a critical condition is taken, as relations between the state before and after: the captures stand or the
critical slot is filled, or the part enters lockdown; and the pumping watches, which do one of them. -/
namespace Sys2Proof.Machine

/-- Nothing but the pumping watches' own flags moves, or the critical slot is filled as well (R165). -/
structure Quiet (s t : State) : Prop where
  kept : Kept s t
  rm : t.rm = s.rm
  pe : t.pe = s.pe
  tk : t.tk = s.tk
  mode : t.mc.mode = s.mc.mode
  derived : t.mc.derived = s.mc.derived
  lockouts : t.mc.parkhold = s.mc.parkhold ∧ t.mc.range = s.mc.range
  resync : t.cp.resync = s.cp.resync
  txn : t.cp.txn = s.cp.txn
  captured : (t.fc = s.fc ∧ t.dt = s.dt ∧ t.cp.flags = s.cp.flags) ∨
    (s.fc.critical = none ∧ s.fc.lockdown = false ∧ (∃ c, t.fc = { s.fc with critical := some c }) ∧ t.dt = criticalTable s
      ∧ t.cp.flags = { s.cp.flags with critical := true })

/-- The part enters lockdown (R166, R167, R25, R54). -/
structure Locks (s t : State) : Prop where
  kept : Kept s t
  before : s.fc.lockdown = false
  lockdown : t.fc.lockdown = true
  standard : t.fc.standard = s.fc.standard
  also : t.fc.also = s.fc.also
  critical : ∀ c, s.fc.critical = some c → t.fc.critical = some c
  filled : t.fc.critical.isSome = true
  flags : ∃ m, t.cp.flags = { s.cp.flags with
    lockdown := true, critical := s.cp.flags.critical || s.fc.critical.isNone,
    presetDone := s.cp.flags.presetDone || s.pe.apply.isSome, modeChanged := m }
  resync : t.cp.resync = s.cp.resync
  txn : t.cp.txn = s.cp.txn
  apply : t.pe.apply = none
  mode : t.mc.mode = .lockdown
  derived : t.mc.derived = true
  queue : t.rm.queue = []
  shift : t.rm.shift = none
  adoption : t.rm.adoption = none
  closed : t.rm.closed = s.rm.closed
  pathBoth : t.rm.pathBoth = s.rm.pathBoth
  slip : t.rm.slipTimer = s.rm.slipTimer ∧ t.rm.rearmTimer = s.rm.rearmTimer ∧ t.rm.slipArmed = s.rm.slipArmed
  stuck : s.rm.shift = none → t.rm.stuck = s.rm.stuck
  cmd : ∀ q, (t.res q).cmd = lockdownCmd s.par q (s.res q).cmd
  conf : ∀ q, (t.res q).conf = if s.rm.shiftOf q then s.input q else (s.res q).conf
  holders : ∀ q, (s.res q).holders = 0 → (t.res q).holders = 0
  orphan : ∀ q, (t.res q).orphan = false
  drift : ∀ q, (t.res q).driftTimer = (if t.ps.validated && !t.driftCondition q then none else (s.res q).driftTimer)
    ∧ (t.res q).driftArmed = (if t.ps.validated && !t.driftCondition q then true else (s.res q).driftArmed)
  records : ∀ i, (t.dt.slot i).record = (s.dt.slot i).record.map (Rec.forfeited .lockdown)
  draws : DrawsAgree t

/-- Either way. -/
def Ends (s t : State) : Prop := Quiet s t ∨ Locks s t

/-! ## Composition -/

section
variable {s t u : State}

theorem Quiet.refl (s : State) : Quiet s s := ⟨.refl s, rfl, rfl, rfl, rfl, rfl, ⟨rfl, rfl⟩, rfl, rfl, .inl ⟨rfl, rfl, rfl⟩⟩

theorem criticalTable_congr (hd : t.dt = s.dt) (hr : t.rm = s.rm) : criticalTable t = criticalTable s := by
  simp [criticalTable, hd, hr]

theorem Quiet.lockdown (h : Quiet s t) : t.fc.lockdown = s.fc.lockdown := by
  obtain ⟨e, -⟩ | ⟨-, -, ⟨c, e⟩, -⟩ := h.captured <;> rw [e]

theorem Quiet.standard (h : Quiet s t) : t.fc.standard = s.fc.standard := by
  obtain ⟨e, -⟩ | ⟨-, -, ⟨c, e⟩, -⟩ := h.captured <;> rw [e]

theorem Quiet.also (h : Quiet s t) : t.fc.also = s.fc.also := by
  obtain ⟨e, -⟩ | ⟨-, -, ⟨c, e⟩, -⟩ := h.captured <;> rw [e]

theorem Quiet.critical (h : Quiet s t) {c : Capture} (k : s.fc.critical = some c) : t.fc.critical = some c := by
  obtain ⟨e, -⟩ | ⟨n, -⟩ := h.captured
  · rwa [e]
  · cases n.symm.trans k

/-- The CRITICAL flag is set with the critical slot, and no other flag. -/
theorem Quiet.flags (h : Quiet s t) : t.cp.flags = { s.cp.flags with
    critical := s.cp.flags.critical || (s.fc.critical.isNone && t.fc.critical.isSome) } := by
  obtain ⟨e, -, f⟩ | ⟨n, -, ⟨c, e⟩, -, f⟩ := h.captured
  · rw [f, e]
    cases s.fc.critical <;> simp
  · simp [f, e, n]

theorem Quiet.trans (h : Quiet s t) (k : Quiet t u) : Quiet s u where
  kept := h.kept.trans k.kept
  rm := k.rm.trans h.rm
  pe := k.pe.trans h.pe
  tk := k.tk.trans h.tk
  mode := k.mode.trans h.mode
  derived := k.derived.trans h.derived
  lockouts := ⟨k.lockouts.1.trans h.lockouts.1, k.lockouts.2.trans h.lockouts.2⟩
  resync := k.resync.trans h.resync
  txn := k.txn.trans h.txn
  captured := by
    obtain ⟨e, d, f⟩ | ⟨n, l, ⟨c, e⟩, d, f⟩ := h.captured
    · obtain ⟨e', d', f'⟩ | ⟨n', l', ⟨c', e'⟩, d', f'⟩ := k.captured
      · exact .inl ⟨e'.trans e, d'.trans d, f'.trans f⟩
      · rw [e] at n' l' e'
        exact .inr ⟨n', l', ⟨c', e'⟩, d'.trans (criticalTable_congr d h.rm), by rw [f', f]⟩
    · obtain ⟨e', d', f'⟩ | ⟨n', -⟩ := k.captured
      · exact .inr ⟨n, l, ⟨c, e'.trans e⟩, d'.trans d, f'.trans f⟩
      · rw [e] at n'; cases n'

theorem input_of_kept (h : Kept s t) (q : Res) : t.input q = s.input q := h.input q

/-- CRITICAL on a pump record is overtaken by lockdown. -/
theorem forfeited_withReason (w : ForfeitReason) (m : RM) (h : HoldReason) (p : Rec → Bool) (r : Rec) :
    (Rec.withReason m h true p r).forfeited w = r.forfeited w := by
  unfold Rec.withReason
  split <;> rfl

theorem Quiet.forfeited (h : Quiet s t) (w : ForfeitReason) (i : Nat) :
    (t.dt.slot i).record.map (Rec.forfeited w) = (s.dt.slot i).record.map (Rec.forfeited w) := by
  obtain ⟨-, d, -⟩ | ⟨-, -, -, d, -⟩ := h.captured
  · rw [d]
  · have e : ((criticalTable s).slot i).record = (s.dt.slot i).record.map (Rec.withReason s.rm .critical true Rec.isPump) :=
      slot_map_record _ _ _ i
    rw [d, e, Option.map_map]
    congr 1
    funext r
    exact forfeited_withReason _ _ _ _ _

theorem Quiet.locks (h : Quiet s t) (k : Locks t u) : Locks s u where
  kept := h.kept.trans k.kept
  before := by rw [← h.lockdown]; exact k.before
  lockdown := k.lockdown
  standard := k.standard.trans h.standard
  also := k.also.trans h.also
  critical := fun c x => k.critical c (h.critical x)
  filled := k.filled
  flags := by
    obtain ⟨m, e⟩ := k.flags
    refine ⟨m, ?_⟩
    obtain ⟨e1, -, f⟩ | ⟨n, -, ⟨c, e1⟩, -, f⟩ := h.captured
    · rw [e, f, e1, h.pe]
    · rw [e, f, h.pe, n]
      simp
  resync := k.resync.trans h.resync
  txn := k.txn.trans h.txn
  apply := k.apply
  mode := k.mode
  derived := k.derived
  queue := k.queue
  shift := k.shift
  adoption := k.adoption
  closed := by rw [k.closed, h.rm]
  pathBoth := by rw [k.pathBoth, h.rm]
  slip := by simpa only [h.rm] using k.slip
  stuck := fun x => by rw [k.stuck (h.rm ▸ x), h.rm]
  cmd := fun q => by rw [k.cmd q, h.kept.par, State.res, h.rm]; rfl
  conf := fun q => by rw [k.conf q, h.kept.input q, State.res, h.rm]; rfl
  holders := fun q x => k.holders q (by rw [State.res, h.rm]; exact x)
  orphan := k.orphan
  drift := fun q => by simpa only [State.res, h.rm] using k.drift q
  records := fun i => (k.records i).trans (h.forfeited _ i)
  draws := k.draws

/-- What fills the critical slot changes no draw (R143, R146, R147). -/
theorem Quiet.draws (h : Quiet s t) (d : DrawsAgree s) : DrawsAgree t := by
  obtain ⟨e, x, -⟩ | ⟨-, -, -, x, -⟩ := h.captured
  · exact draws_stand_dt d h.tk (by rw [h.rm]) (by rw [e]) x
  · have moved : Moves (fun r r' => r' = Rec.withReason s.rm .critical true Rec.isPump r) s t :=
      .of_map (f := Rec.withReason s.rm .critical true Rec.isPump) (fun i => by rw [x]; exact slot_map_record _ _ _ i) fun _ => rfl
    exact draws_stand d h.tk (by rw [h.rm]) h.lockdown
      (moved.records_map fun r r' e => by rw [e, drawing_withReason not_discharge_of_isPump])

theorem Locks.quiet (h : Locks s t) (k : Quiet t u) : Locks s u := by
  obtain ⟨e, d, f⟩ | ⟨-, l, -⟩ := k.captured
  · have res (q : Res) : u.res q = t.res q := by rw [State.res, k.rm]; rfl
    have drift (q : Res) : u.driftCondition q = t.driftCondition q := driftCondition_core (by rw [k.rm]) q
    exact {
      kept := h.kept.trans k.kept
      before := h.before
      lockdown := by rw [e, h.lockdown]
      standard := by rw [e, h.standard]
      also := by rw [e, h.also]
      critical := fun c x => by rw [e, h.critical c x]
      filled := by rw [e, h.filled]
      flags := f ▸ h.flags
      resync := k.resync.trans h.resync
      txn := k.txn.trans h.txn
      apply := by rw [k.pe, h.apply]
      mode := k.mode.trans h.mode
      derived := k.derived.trans h.derived
      queue := by rw [k.rm, h.queue]
      shift := by rw [k.rm, h.shift]
      adoption := by rw [k.rm, h.adoption]
      closed := by rw [k.rm, h.closed]
      pathBoth := by rw [k.rm, h.pathBoth]
      slip := by rw [k.rm]; exact h.slip
      stuck := fun x => by rw [k.rm, h.stuck x]
      cmd := fun q => by rw [res, h.cmd]
      conf := fun q => by rw [res, h.conf]
      holders := fun q x => by rw [res, h.holders q x]
      orphan := fun q => by rw [res, h.orphan]
      drift := fun q => by rw [res, drift, k.kept.ps]; exact h.drift q
      records := fun i => by rw [d, h.records]
      draws := k.draws h.draws }
  · exact absurd l (by simp [h.lockdown])

theorem Ends.refl (s : State) : Ends s s := .inl (.refl s)

theorem Ends.trans (h : Ends s t) (k : Ends t u) : Ends s u := by
  obtain h | h := h <;> obtain k | k := k
  · exact .inl (h.trans k)
  · exact .inr (h.locks k)
  · exact .inr (h.quiet k)
  · exact absurd k.before (by simp [h.lockdown])

end

/-! ## Lockdown entered -/

section
variable {s : State}

theorem shiftStopped_orders (s : State) : Orders s (shiftStopped s) := by
  unfold shiftStopped; split
  · exact (leaveSlot_orders s _).trans (checkPumpPath_orders _)
  · exact .refl s

theorem shiftStopped_kept (s : State) : Kept s (shiftStopped s) := by
  unfold shiftStopped; split
  · exact (leaveSlot_kept s _).trans (checkPumpPath_kept _)
  · exact .refl s

theorem shiftStopped_mc (s : State) : (shiftStopped s).mc = s.mc := by
  unfold shiftStopped; split <;> simp

theorem shiftStopped_shift (s : State) : (shiftStopped s).rm.shift = none := by
  unfold shiftStopped; split
  · simp
  · assumption

theorem shiftStopped_queue (s : State) : (shiftStopped s).rm.queue = s.rm.queue := by
  unfold shiftStopped; split <;> simp

theorem shiftStopped_none (h : s.rm.shift = none) : shiftStopped s = s := by simp [shiftStopped, h]

/-- R28, R54: the resource of the shift that stops takes its confirm input as its position. -/
theorem shiftStopped_res (s : State) (q : Res) : (shiftStopped s).res q =
    { s.res q with conf := if s.rm.shiftOf q then s.input q else (s.res q).conf } := by
  unfold shiftStopped RM.shiftOf
  split
  · rename_i sh hs
    rw [checkPumpPath_res, leaveSlot_res]
    by_cases h : q = sh.res
    · subst q; simp [hs]
    · simp [hs, h, Ne.symm h]
  · rename_i hs
    simp [hs]

/-- R54 with what follows from it for each resource. -/
theorem resourcesLockdown_res (s : State) (q : Res) : ∃ a b, (resourcesLockdown s).res q =
    { (shiftStopped (s.setRm { s.rm with queue := [] })).res q with
      cmd := lockdownCmd s.par q (s.res q).cmd, orphan := false, driftTimer := a, driftArmed := b }
    ∧ a = (if s.ps.validated && !(resourcesLockdown s).driftCondition q then none else (s.res q).driftTimer)
    ∧ b = (if s.ps.validated && !(resourcesLockdown s).driftCondition q then true else (s.res q).driftArmed) := by
  obtain ⟨m, e, c, g⟩ := resourcesLockdown_eq s
  generalize hu : shiftStopped (s.setRm { s.rm with queue := [] }) = u at e c g
  have ps : u.ps = s.ps := by rw [← hu, (shiftStopped_kept _).ps]; rfl
  have res : u.res q = { s.res q with conf := (u.res q).conf } := by
    rw [← hu, shiftStopped_res]
    cases q <;> rfl
  have cond : (resourcesLockdown s).driftCondition q = (u.setRm (u.rm.locked s.par)).driftCondition q :=
    driftCondition_core (by rw [e]; exact c) q
  have locked : (u.setRm (u.rm.locked s.par)).res q = (u.res q).lockdown s.par q := locked_get q u.rm s.par
  have same : (resourcesLockdown s).res q = (u.setRm (u.rm.locked s.par)).lapsed q := by
    rw [e]; exact g q
  rw [same, cond]
  unfold State.lapsed
  rw [locked, State.setRm_ps, ps, res]
  split
  · exact ⟨none, true, rfl, rfl, rfl⟩
  · exact ⟨_, _, rfl, rfl, rfl⟩

/-- R54: what the resources' part of lockdown sets and leaves of the rest. -/
theorem resourcesLockdown_rest (s : State) : ∃ m, resourcesLockdown s = (shiftStopped (s.setRm { s.rm with queue := [] })).setRm m
    ∧ m.queue = [] ∧ m.shift = none ∧ m.adoption = none ∧ m.closed = s.rm.closed ∧ m.pathBoth = s.rm.pathBoth
    ∧ m.slipTimer = s.rm.slipTimer ∧ m.rearmTimer = s.rm.rearmTimer ∧ m.slipArmed = s.rm.slipArmed
    ∧ (s.rm.shift = none → m.stuck = s.rm.stuck) := by
  obtain ⟨m, e, c, -⟩ := resourcesLockdown_eq s
  have o := shiftStopped_orders (s.setRm { s.rm with queue := [] })
  refine ⟨m, e, ?_, ?_, ?_, ?_, ?_, ?_, ?_, ?_, fun h => ?_⟩
  · exact (congrArg RM.queue c :).trans (shiftStopped_queue _)
  · exact (congrArg RM.shift c :).trans (shiftStopped_shift _)
  · exact (congrArg RM.adoption c :)
  · exact (congrArg RM.closed c :).trans o.closed
  · exact (congrArg RM.pathBoth c :).trans o.pathBoth
  · exact (congrArg RM.slipTimer c :).trans o.slipTimer
  · exact (congrArg RM.rearmTimer c :).trans o.rearmTimer
  · exact (congrArg RM.slipArmed c :).trans o.slipArmed
  · refine (congrArg RM.stuck c :).trans ?_
    rw [shiftStopped_none (s := s.setRm { s.rm with queue := [] }) h]
    rfl

/-- R25: what the table's part of lockdown sets and leaves. -/
theorem tableLockdown_rest (h : s.fc.lockdown = true) : ∃ g k, tableLockdown s =
    ((((s.setDt { slots := s.dt.slots.map (Slot.mapRec (Rec.forfeited .lockdown)), governing := [] }).setPg g).setRm
      (s.rm.fewer s.dt.holdersOf)).setTk k) := by
  rw [tableLockdown_eq h]
  obtain ⟨g, e⟩ := storeTable_eq s { slots := s.dt.slots.map (Slot.mapRec (Rec.forfeited .lockdown)), governing := [] }
  rw [e]
  exact ⟨g, _, rfl⟩

theorem fewer_res (s : State) (n : Res → Nat) (q : Res) :
    (s.rm.fewer n).get q = { s.res q with holders := (s.res q).holders - n q } := fewer_get q s.rm n

/-- The state of a part in which lockdown has been entered, before its resources follow. -/
def tableLocked (c : Cause) (w : Option Res) (s : State) : State :=
  tableLockdown (abandonApply .lockdown none (govOff
    (s.setFc { s.fc with lockdown := true, lockdownCap := some (s.snapshot c w) })))

section
variable (c : Cause) (w : Option Res)

theorem tableLocked_eq (s : State) : ∃ n l g k e p,
    tableLocked c w s = (((((((s.setFc { s.fc with lockdown := true, lockdownCap := some (s.snapshot c w) }).setDt
      ⟨l, []⟩).setPg g).setTk k).setPe e).setCp p).setRm (s.rm.fewer n))
    ∧ e.apply = none ∧ p.flags = { s.cp.flags with presetDone := s.cp.flags.presetDone || s.pe.apply.isSome }
    ∧ p.resync = s.cp.resync ∧ p.txn = s.cp.txn
    ∧ ∀ i, ((DT.mk l []).slot i).record = (s.dt.slot i).record.map (Rec.forfeited .lockdown) := by
  obtain ⟨g0, e0⟩ := govOff_eq (s.setFc { s.fc with lockdown := true, lockdownCap := some (s.snapshot c w) })
  obtain ⟨l, e, p, e1, ha, hf, hr, ht, hl⟩ := abandonApply_eq
    ((s.setFc { s.fc with lockdown := true, lockdownCap := some (s.snapshot c w) }).setPg g0) .lockdown none
  obtain ⟨g, k, e2⟩ := tableLockdown_rest (s := abandonApply .lockdown none
    ((s.setFc { s.fc with lockdown := true, lockdownCap := some (s.snapshot c w) }).setPg g0)) (by simp)
  refine ⟨(DT.mk l s.dt.governing).holdersOf, l.map (Slot.mapRec (Rec.forfeited .lockdown)), g, k, e, p, ?_, ha, hf, hr, ht, fun i => ?_⟩
  · unfold tableLocked
    rw [e0, e2, e1]
    rfl
  · exact (slot_map_record _ l [] i).trans (congrArg _ (hl i))

theorem tableLocked_kept (s : State) : Kept s (tableLocked c w s) :=
  ((Kept.trans (t := s.setFc { s.fc with lockdown := true, lockdownCap := some (s.snapshot c w) })
    (by constructor <;> simp) (govOff_kept _)).trans (abandonApply_kept _ _ _)).trans (tableLockdown_kept _)

/-- All records FORFEIT, a change of the pump path tells none of them anything. -/
theorem shiftStopped_record {i : Nat} (h : ∀ r, (s.dt.slot i).record = some r → r.isForfeit = true) :
    ((shiftStopped s).dt.slot i).record = (s.dt.slot i).record := by
  cases hr : (s.dt.slot i).record with
  | none =>
    cases ht : ((shiftStopped s).dt.slot i).record with
    | none => rfl
    | some r' =>
      obtain ⟨r, hx, -⟩ := (shiftStopped_orders s).records.back ht
      cases hr.symm.trans hx
  | some r =>
    obtain ⟨r', ht, hx⟩ := (shiftStopped_orders s).records.forward hr
    rw [ht, hx.2.2 (h r hr)]

/-- R54: the resources' part leaves the captures, the flags, the mode and the records of a table in lockdown. -/
theorem resourcesLockdown_leaves (s : State) : (resourcesLockdown s).fc = s.fc ∧ (resourcesLockdown s).cp = s.cp
    ∧ (resourcesLockdown s).pe = s.pe ∧ (resourcesLockdown s).mc = s.mc
    ∧ ∀ i, (∀ r, (s.dt.slot i).record = some r → r.isForfeit = true) →
      ((resourcesLockdown s).dt.slot i).record = (s.dt.slot i).record := by
  obtain ⟨m, e, -⟩ := resourcesLockdown_rest s
  have o := shiftStopped_orders (s.setRm { s.rm with queue := [] })
  rw [e]
  exact ⟨o.fc, o.cp, o.pe, shiftStopped_mc _, fun i h => shiftStopped_record (s := s.setRm { s.rm with queue := [] }) h⟩

/-- R167: the entry into lockdown. -/
theorem enterLockdown_locks (h : s.fc.lockdown = false) (hc : s.fc.critical.isSome = true) : Locks s (enterLockdown c w s) := by
  have kept := enterLockdown_kept s c w
  obtain ⟨n, l, g, k, e, p, eb, ha, hf, hr, ht, hl⟩ := tableLocked_eq c w s
  have hb := tableLocked_kept c w (s := s)
  have draws := enterLockdown_agrees s c w
  have same : enterLockdown c w s =
      raiseAtt .lockdown (evaluateScopes (deriveMode (driveValves (resourcesLockdown (tableLocked c w s))))) := rfl
  have hrec (i : Nat) : ((tableLocked c w s).dt.slot i).record = (s.dt.slot i).record.map (Rec.forfeited .lockdown) := by
    rw [eb]; exact hl i
  have brm : (tableLocked c w s).rm = s.rm.fewer n := by rw [eb]; rfl
  have bres (q : Res) : (tableLocked c w s).res q = { s.res q with holders := (s.res q).holders - n q } := by
    rw [eb]; exact fewer_res s n q
  have bfc : (tableLocked c w s).fc = { s.fc with lockdown := true, lockdownCap := some (s.snapshot c w) } := by rw [eb]; rfl
  have bcp : (tableLocked c w s).cp = p := by rw [eb]; rfl
  have bpe : (tableLocked c w s).pe = e := by rw [eb]; rfl
  generalize tableLocked c w s = b at *
  obtain ⟨lfc, lcp, lpe, lmc, lrec⟩ := resourcesLockdown_leaves b
  obtain ⟨m, em, hq, hs, had, hcl, hpb, hsl, hre, har, hst⟩ := resourcesLockdown_rest b
  have hres := resourcesLockdown_res b
  have erm : (resourcesLockdown b).rm = m := by rw [em]; rfl
  have hl := resourcesLockdown_kept b
  generalize resourcesLockdown b = u at *
  have trm : (enterLockdown c w s).rm = u.rm := by rw [same]; simp
  have tfc : (enterLockdown c w s).fc = { s.fc with lockdown := true, lockdownCap := some (s.snapshot c w) } := by
    rw [same]; simp [lfc, bfc]
  have tres (q : Res) : (enterLockdown c w s).res q = u.res q := by rw [State.res, trm]; rfl
  have tcond (q : Res) : (enterLockdown c w s).driftCondition q = u.driftCondition q := driftCondition_core (by rw [trm]) q
  have tps : (enterLockdown c w s).ps = b.ps := by rw [kept.ps, hb.ps]
  exact {
    kept := kept
    before := h
    lockdown := by rw [tfc]
    standard := by rw [tfc]
    also := by rw [tfc]
    critical := fun c x => by rw [tfc]; exact x
    filled := by rw [tfc]; exact hc
    flags := by
      refine ⟨(deriveMode (driveValves u)).cp.flags.modeChanged, ?_⟩
      have hn : s.fc.critical.isNone = false := by simpa using hc
      rw [same]
      simp [deriveMode_flags, lcp, bcp, hf, hn, AttSet.insert]
    resync := by rw [same]; simp [lcp, bcp, hr]
    txn := by rw [same]; simp [lcp, bcp, ht]
    apply := by rw [same]; simp [lpe, bpe, ha]
    mode := by rw [same]; simp [modeOf_lockdown, lfc, bfc]
    derived := by rw [same]; simp
    queue := by rw [trm, erm, hq]
    shift := by rw [trm, erm, hs]
    adoption := by rw [trm, erm, had]
    closed := by rw [trm, erm, hcl, brm]; rfl
    pathBoth := by rw [trm, erm, hpb, brm]; rfl
    slip := by rw [trm, erm, hsl, hre, har, brm]; exact ⟨rfl, rfl, rfl⟩
    stuck := fun x => by rw [trm, erm, hst (by rw [brm]; exact x), brm]; rfl
    cmd := fun q => by
      obtain ⟨x, y, e1, -⟩ := hres q
      rw [tres, e1, bres, hb.par]
    conf := fun q => by
      obtain ⟨x, y, e1, -⟩ := hres q
      have i : (b.setRm { b.rm with queue := [] }).input q = s.input q := hb.input q
      have f : (b.setRm { b.rm with queue := [] }).res q = b.res q := setRm_res b q ⟨rfl, rfl, rfl, rfl⟩
      have g : (b.setRm { b.rm with queue := [] }).rm.shiftOf q = s.rm.shiftOf q := by
        simp only [RM.shiftOf, State.setRm_rm, brm]; rfl
      rw [tres, e1, shiftStopped_res, i, f, g, bres]
    holders := fun q x => by
      obtain ⟨y, z, e1, -⟩ := hres q
      have f : (b.setRm { b.rm with queue := [] }).res q = b.res q := setRm_res b q ⟨rfl, rfl, rfl, rfl⟩
      rw [tres, e1, shiftStopped_res, f, bres]
      simp [x]
    orphan := fun q => by
      obtain ⟨x, y, e1, -⟩ := hres q
      rw [tres, e1]
    drift := fun q => by
      obtain ⟨x, y, e1, ex, ey⟩ := hres q
      have f : (b.res q).driftTimer = (s.res q).driftTimer ∧ (b.res q).driftArmed = (s.res q).driftArmed := by simp [bres]
      rw [tres, tcond, tps, e1, ← f.1, ← f.2]
      exact ⟨ex, ey⟩
    records := fun i => by
      have dt : (enterLockdown c w s).dt = u.dt := by rw [same]; simp
      rw [dt, lrec i (fun r hr => ?_), hrec]
      rw [hrec] at hr
      obtain ⟨r0, -, rfl⟩ := Option.map_eq_some_iff.1 hr
      rfl
    draws := draws }

/-! ## Critical faults and the pumping watches -/

theorem fillCritical_quiet (h : s.fc.critical = none) (hl : s.fc.lockdown = false) : Quiet s (fillCritical c w s) where
  kept := fillCritical_kept s c w
  rm := fillCritical_rm s c w
  pe := fillCritical_pe s c w
  tk := fillCritical_tk s c w
  mode := by rw [fillCritical_mc]
  derived := by rw [fillCritical_mc]
  lockouts := by rw [fillCritical_mc]; exact ⟨rfl, rfl⟩
  resync := (fillCritical_cp s c w).2.1
  txn := (fillCritical_cp s c w).2.2
  captured := .inr ⟨h, hl, ⟨_, fillCritical_fc s c w⟩, fillCritical_dt s c w, (fillCritical_cp s c w).1⟩

/-- R165, R166: a critical fault fills an empty slot, is lockdown on a filled one and changes nothing in lockdown. -/
theorem criticalFault_ends (s : State) : Ends s (criticalFault c w s) := by
  unfold criticalFault
  split
  · exact .refl s
  · rename_i hl
    have hl : s.fc.lockdown = false := by simpa using hl
    split
    · rename_i hc
      exact .inr (enterLockdown_locks c w hl hc)
    · rename_i hc
      exact .inl (fillCritical_quiet c w (by simpa using hc) hl)

theorem criticalFault_fills (h : s.fc.critical = none) (hl : s.fc.lockdown = false) :
    (criticalFault c w s).fc = { s.fc with critical := some (s.snapshot c w) } := by
  simp [criticalFault, hl, h, fillCritical_fc]

theorem criticalFault_locks (h : s.fc.critical.isSome = true) (hl : s.fc.lockdown = false) :
    Locks s (criticalFault c w s) := by
  simpa [criticalFault, hl, h] using enterLockdown_locks c w hl h

end

/-- A watch that only keeps its own flag. -/
theorem setMc_quiet {m : MC} (k : Kept s (s.setMc m)) (hm : m.mode = s.mc.mode) (hd : m.derived = s.mc.derived)
    (hl : m.parkhold = s.mc.parkhold ∧ m.range = s.mc.range) : Quiet s (s.setMc m) :=
  ⟨k, rfl, rfl, rfl, hm, hd, hl, rfl, rfl, .inl ⟨rfl, rfl, rfl⟩⟩

theorem evaluateScopes_quiet (s : State) : Quiet s (evaluateScopes s) := setMc_quiet (evaluateScopes_kept s) rfl rfl ⟨rfl, rfl⟩

theorem motionWatch_ends (s : State) : Ends s (motionWatch s) := by
  have noted (b : Bool) : Quiet s (s.setMc { s.mc with motionEp := b }) := setMc_quiet (by constructor <;> simp) rfl rfl ⟨rfl, rfl⟩
  unfold motionWatch
  repeat' split
  · exact .refl s
  · exact .refl s
  · exact Ends.trans (.inl (noted true)) (criticalFault_ends _ _ _)
  · exact .inl (noted false)

theorem parkWatch_ends (s : State) : Ends s (parkWatch s) := by
  have noted (b : Bool) : Quiet s (s.setMc { s.mc with parkEp := b }) := setMc_quiet (by constructor <;> simp) rfl rfl ⟨rfl, rfl⟩
  unfold parkWatch
  repeat' split
  · exact .refl s
  · exact Ends.trans (.inl (noted true)) (criticalFault_ends _ _ _)
  · exact .inl (noted false)

theorem evaluatePumping_ends (s : State) : Ends s (evaluatePumping s) := by
  unfold evaluatePumping; dsimp only
  split
  · exact ((Ends.trans (.inl (evaluateScopes_quiet s)) (motionWatch_ends _))).trans (parkWatch_ends _)
  · exact Ends.trans (.inl (evaluateScopes_quiet s)) (parkWatch_ends _)

theorem graceAtMode_quiet (m : Mode) (s : State) : Quiet s (graceAtMode m s) := by
  have timed (t : Timer) : Quiet s (s.setMc { s.mc with graceTimer := t }) := setMc_quiet (by constructor <;> simp) rfl rfl ⟨rfl, rfl⟩
  unfold graceAtMode
  repeat' split
  · exact .refl s
  · exact timed _
  · exact .refl s
  · exact timed _

/-- After the derivation of the mode the pumping watches report nothing, fill the critical slot or bring lockdown. -/
theorem deriveAndWatch_ends (s : State) : Ends (deriveMode s) (deriveAndWatch s) :=
  (evaluatePumping_ends _).trans (.inl (graceAtMode_quiet _ _))

end
end Sys2Proof.Machine
end

section
/-! SUPPORT. The end of an event: what the foam suspensions, the derivation of the mode, the watches and the changed flags do after the
Resource Manager's work, where no RESYNC waits (R145, R67, R45, R62, R21), and what lasts through it in every case. -/
namespace Sys2Proof.Machine

section
variable (s : State) (r q : Res)

/-! ## Foam suspensions (R145) -/

theorem evaluateSuspensions_eq : ∃ k, evaluateSuspensions s =
    (s.setDt { s.dt with slots := s.dt.slots.map (Slot.mapRec (Rec.withSuspension s.suspension)) }).setTk k := by
  unfold evaluateSuspensions; dsimp only
  split
  · rename_i h
    exact ⟨s.tk, by rw [h]; rfl⟩
  · exact ⟨_, rfl⟩

@[simp] theorem evaluateSuspensions_rm : (evaluateSuspensions s).rm = s.rm := by
  obtain ⟨k, e⟩ := evaluateSuspensions_eq s; simp [e]
@[simp] theorem evaluateSuspensions_fc : (evaluateSuspensions s).fc = s.fc := by
  obtain ⟨k, e⟩ := evaluateSuspensions_eq s; simp [e]
@[simp] theorem evaluateSuspensions_cp : (evaluateSuspensions s).cp = s.cp := by
  obtain ⟨k, e⟩ := evaluateSuspensions_eq s; simp [e]
@[simp] theorem evaluateSuspensions_mc : (evaluateSuspensions s).mc = s.mc := by
  obtain ⟨k, e⟩ := evaluateSuspensions_eq s; simp [e]
@[simp] theorem evaluateSuspensions_pe : (evaluateSuspensions s).pe = s.pe := by
  obtain ⟨k, e⟩ := evaluateSuspensions_eq s; simp [e]

theorem evaluateSuspensions_record (i : Nat) :
    ((evaluateSuspensions s).dt.slot i).record = (s.dt.slot i).record.map (Rec.withSuspension s.suspension) := by
  obtain ⟨k, e⟩ := evaluateSuspensions_eq s
  rw [e]
  exact slot_map_record _ _ _ i

/-! ## Changed flags (R21) -/

theorem storeMarked_eq (l : List Slot) : ∃ b, storeMarked l s = (s.setDt { s.dt with slots := l }).setCp b
    ∧ b.flags = { s.cp.flags with demandChanged := s.cp.flags.demandChanged || anyRaised s.dt.slots l }
    ∧ b.resync = s.cp.resync ∧ b.txn = s.cp.txn := by
  unfold storeMarked; dsimp only
  split
  · rename_i h
    exact ⟨_, rfl, by simp [h, AttSet.insert], rfl, rfl⟩
  · rename_i h
    exact ⟨s.cp, rfl, by simp [h], rfl, rfl⟩

variable (b : List Slot)

@[simp] theorem markChanged_rm : (markChanged b s).rm = s.rm := by obtain ⟨c, e, -⟩ := storeMarked_eq s (markSlots b s.dt.slots); simp [markChanged, e]
@[simp] theorem markChanged_fc : (markChanged b s).fc = s.fc := by obtain ⟨c, e, -⟩ := storeMarked_eq s (markSlots b s.dt.slots); simp [markChanged, e]
@[simp] theorem markChanged_mc : (markChanged b s).mc = s.mc := by obtain ⟨c, e, -⟩ := storeMarked_eq s (markSlots b s.dt.slots); simp [markChanged, e]
@[simp] theorem markChanged_tk : (markChanged b s).tk = s.tk := by obtain ⟨c, e, -⟩ := storeMarked_eq s (markSlots b s.dt.slots); simp [markChanged, e]
@[simp] theorem markChanged_pe : (markChanged b s).pe = s.pe := by obtain ⟨c, e, -⟩ := storeMarked_eq s (markSlots b s.dt.slots); simp [markChanged, e]
@[simp] theorem markChanged_resync : (markChanged b s).cp.resync = s.cp.resync := by
  obtain ⟨c, e, -, h, -⟩ := storeMarked_eq s (markSlots b s.dt.slots); simp [markChanged, e, h]
@[simp] theorem markChanged_txn : (markChanged b s).cp.txn = s.cp.txn := by
  obtain ⟨c, e, -, -, h⟩ := storeMarked_eq s (markSlots b s.dt.slots); simp [markChanged, e, h]
theorem markChanged_flags : (markChanged b s).cp.flags =
    { s.cp.flags with demandChanged := s.cp.flags.demandChanged || anyRaised s.dt.slots (markSlots b s.dt.slots) } := by
  obtain ⟨c, e, h, -⟩ := storeMarked_eq s (markSlots b s.dt.slots); simp [markChanged, e, h]
theorem markChanged_slots : (markChanged b s).dt.slots = markSlots b s.dt.slots := by
  obtain ⟨c, e, -⟩ := storeMarked_eq s (markSlots b s.dt.slots); simp [markChanged, e]

/-- A slot keeps its record or has it marked. -/
theorem markSlots_slot (g : List Descriptor) : ∀ (b l : List Slot) (i : Nat),
    (DT.mk (markSlots b l) g).slot i = (DT.mk l g).slot i ∨
      (DT.mk (markSlots b l) g).slot i = ((DT.mk l g).slot i).mapRec Rec.mark
  | [], l, i => by cases l <;> exact .inl rfl
  | _ :: _, [], i => .inl rfl
  | x :: b, y :: l, 0 => by
    simp only [markSlots, DT.slot, List.getD_cons_zero]
    split
    · exact .inr rfl
    · exact .inl rfl
  | x :: b, y :: l, i + 1 => by simpa [markSlots, DT.slot] using markSlots_slot g b l i

theorem markChanged_records : Moves (fun r r' => r' = r ∨ r' = r.mark) s (markChanged b s) := fun i => by
  have e : ((markChanged b s).dt.slot i) = (DT.mk (markSlots b s.dt.slots) s.dt.governing).slot i := by
    unfold DT.slot; rw [markChanged_slots]
  rw [e]
  obtain h | h := markSlots_slot s.dt.governing b s.dt.slots i
  · rw [h]
    exact Moves.refl (P := fun r r' => r' = r ∨ r' = r.mark) (fun _ => .inl rfl) s i
  · rw [h, record_mapRec]
    change Option.Rel _ (s.dt.slot i).record ((s.dt.slot i).record.map Rec.mark)
    cases (s.dt.slot i).record with
    | none => exact .none
    | some r => exact .some (.inr rfl)

end

/-! ## The parts of the end -/

section
variable {s u : State}

/-- Where no RESYNC waits, the end of an event is the suspensions, the mode with its watches, the position watches and the changed
flags. -/
theorem endEvent_parts (s0 : State) (b : List Slot) (h : u.cp.resync = false) :
    ∃ v w, (v = if (u.res .ptoa).conf = (s0.res .ptoa).conf then u else evaluateSuspensions u)
      ∧ (w = if u.mc.derived then deriveAndWatch v else v) ∧ w.cp.resync = false
      ∧ endEvent s0 b u = markChanged b (positionWatches w) := by
  have settle (t : State) (ht : t.cp.resync = false) : settleResync b t = t := by simp [settleResync, ht]
  have v_resync : (if (u.res .ptoa).conf = (s0.res .ptoa).conf then u else evaluateSuspensions u).cp.resync = false := by
    split <;> simpa using h
  have v_derived : (if (u.res .ptoa).conf = (s0.res .ptoa).conf then u else evaluateSuspensions u).mc.derived = u.mc.derived := by
    split <;> simp
  have follow : followUp s0 b u = if u.mc.derived then
      deriveAndWatch (if (u.res .ptoa).conf = (s0.res .ptoa).conf then u else evaluateSuspensions u)
      else if (u.res .ptoa).conf = (s0.res .ptoa).conf then u else evaluateSuspensions u := by
    unfold followUp
    rw [settle u h]
    dsimp only
    rw [v_derived]
  generalize (if (u.res .ptoa).conf = (s0.res .ptoa).conf then u else evaluateSuspensions u) = v at *
  have w_resync : (if u.mc.derived then deriveAndWatch v else v).cp.resync = false := by
    split
    · obtain k | k := deriveAndWatch_ends v
      · rw [k.resync, deriveMode_resync, v_resync]
      · rw [k.resync, deriveMode_resync, v_resync]
    · exact v_resync
  refine ⟨v, _, rfl, rfl, w_resync, ?_⟩
  unfold endEvent
  rw [follow]
  obtain ⟨m, a, c, e, -⟩ := positionWatches_eq (if u.mc.derived then deriveAndWatch v else v)
  rw [settle _ (by rw [e]; exact w_resync)]

/-! ## What the end leaves -/

/-- A record's state, reasons and lease stand. -/
def Rec.Stands (r r' : Rec) : Prop := r'.state = r.state ∧ r'.reasons = r.reasons ∧ r'.lease = r.lease

theorem Rec.Stands.trans {a b c : Rec} (h : Stands a b) (k : Stands b c) : Stands a c :=
  ⟨k.1.trans h.1, k.2.1.trans h.2.1, k.2.2.trans h.2.2⟩

/-- An event ends without lockdown beginning: the Resource Manager stands but for the drift watches, and the captures stand or the
critical slot is filled. -/
structure EndsOpen (u t : State) : Prop where
  core : t.rm.core = u.rm.core
  captured : t.fc = u.fc ∨ (u.fc.critical = none ∧ u.fc.lockdown = false ∧ ∃ c, t.fc = { u.fc with critical := some c })
  standardFlag : u.cp.flags.standard = true → t.cp.flags.standard = true
  locked : u.fc.lockdown = true → u.mc.mode = .lockdown → t.mc.mode = .lockdown
  records : Moves (fun r r' => t.fc.critical = u.fc.critical ∨ r.isPump = false ∨ r.isForfeit = true → r.Stands r') u t

/-- An event ends in the lockdown that began at its end. -/
structure EndsLocked (u t : State) : Prop where
  before : u.fc.lockdown = false
  lockdown : t.fc.lockdown = true
  mode : t.mc.mode = .lockdown
  standard : t.fc.standard = u.fc.standard
  critical : ∀ c, u.fc.critical = some c → t.fc.critical = some c
  standardFlag : u.cp.flags.standard = true → t.cp.flags.standard = true
  queue : t.rm.queue = []
  shift : t.rm.shift = none
  adoption : t.rm.adoption = none
  stuck : u.rm.shift = none → t.rm.stuck = u.rm.stuck
  cmd : ∀ q, (t.res q).cmd = lockdownCmd u.par q (u.res q).cmd
  conf : ∀ q, (t.res q).conf = if u.rm.shiftOf q then u.input q else (u.res q).conf
  holders : ∀ q, (u.res q).holders = 0 → (t.res q).holders = 0
  orphan : ∀ q, (t.res q).orphan = false
  records : Moves (fun _ r' => r'.state = .forfeit .lockdown ∧ r'.reasons = Reasons.none ∧ r'.lease.running = false) u t

theorem EndsOpen.lockdown {t : State} (h : EndsOpen u t) : t.fc.lockdown = u.fc.lockdown := by
  obtain e | ⟨-, -, c, e⟩ := h.captured <;> rw [e]

theorem EndsOpen.standard {t : State} (h : EndsOpen u t) : t.fc.standard = u.fc.standard := by
  obtain e | ⟨-, -, c, e⟩ := h.captured <;> rw [e]

theorem EndsOpen.critical {t : State} (h : EndsOpen u t) {c : Capture} (k : u.fc.critical = some c) :
    t.fc.critical = some c := by
  obtain e | ⟨n, -⟩ := h.captured
  · rwa [e]
  · cases n.symm.trans k

/-! ## Each part -/

theorem withSuspension_stands (f : FoamTank → FoamSusp) (r : Rec) : r.Stands (r.withSuspension f)
    ∧ (r.withSuspension f).isPump = r.isPump ∧ (r.withSuspension f).isForfeit = r.isForfeit := by
  obtain ⟨d, st, x, rs, l, ch⟩ := r
  unfold Rec.withSuspension
  split
  · rename_i hd
    have hd : d = _ := hd
    subst hd
    exact ⟨⟨rfl, rfl, rfl⟩, rfl, rfl⟩
  · exact ⟨⟨rfl, rfl, rfl⟩, rfl, rfl⟩

theorem markStands {r r' : Rec} (h : r' = r ∨ r' = r.mark) : r.Stands r' ∧ r'.isPump = r.isPump ∧ r'.isForfeit = r.isForfeit := by
  obtain rfl | rfl := h
  · exact ⟨⟨rfl, rfl, rfl⟩, rfl, rfl⟩
  · exact ⟨⟨rfl, rfl, rfl⟩, rfl, rfl⟩

theorem Quiet.stands {s t : State} (h : Quiet s t) :
    Moves (fun r r' => t.fc.critical = s.fc.critical ∨ r.isPump = false ∨ r.isForfeit = true → r.Stands r') s t := by
  obtain ⟨-, d, -⟩ | ⟨n, -, ⟨c, e⟩, d, -⟩ := h.captured
  · exact .of_dt (fun r _ => ⟨rfl, rfl, rfl⟩) d
  · refine .of_map (f := Rec.withReason s.rm .critical true Rec.isPump) (fun i => ?_) fun r hr => ?_
    · rw [d]; exact slot_map_record _ _ _ i
    · rw [e, n] at hr
      obtain hr | hr | hr := hr
      · cases hr
      · simp [Rec.withReason, hr, Rec.Stands]
      · simp [Rec.withReason, hr, Rec.Stands]

/-- What comes before the pumping watches: the suspensions and the mode. -/
structure Leads (u k : State) : Prop where
  kept : Kept u k
  rm : k.rm = u.rm
  fc : k.fc = u.fc
  resync : k.cp.resync = u.cp.resync
  flag : u.cp.flags.standard = true → k.cp.flags.standard = true
  locked : u.fc.lockdown = true → u.mc.mode = .lockdown → k.mc.mode = .lockdown
  records : Moves (fun r r' => r.Stands r' ∧ r'.isPump = r.isPump ∧ r'.isForfeit = r.isForfeit) u k

/-- What comes after them: the position watches and the changed flags. -/
structure Closes (w t : State) : Prop where
  core : t.rm.core = w.rm.core
  fc : t.fc = w.fc
  mode : t.mc.mode = w.mc.mode
  flag : w.cp.flags.standard = true → t.cp.flags.standard = true
  records : Moves (fun r r' => r.Stands r' ∧ r'.isPump = r.isPump ∧ r'.isForfeit = r.isForfeit) w t

theorem suspensions_lead {p : Prop} [Decidable p] : Leads u (if p then u else evaluateSuspensions u) := by
  split
  · exact ⟨.refl u, rfl, rfl, rfl, id, fun _ h => h, .refl (fun r => ⟨⟨rfl, rfl, rfl⟩, rfl, rfl⟩) u⟩
  · exact ⟨evaluateSuspensions_kept u, by simp, by simp, by simp, by simp, fun _ h => by simpa using h,
      .of_map (evaluateSuspensions_record u) fun r => withSuspension_stands _ r⟩

theorem Leads.mode {v : State} (h : Leads u v) : Leads u (deriveMode v) where
  kept := h.kept.trans (deriveMode_kept v)
  rm := by rw [deriveMode_rm, h.rm]
  fc := by rw [deriveMode_fc, h.fc]
  resync := by rw [deriveMode_resync, h.resync]
  flag := fun x => by rw [deriveMode_flags]; exact h.flag x
  locked := fun x _ => by rw [deriveMode_mode, modeOf_lockdown (by rw [h.fc, x])]
  records := fun i => by rw [deriveMode_dt]; exact h.records i

theorem Leads.ends_open {k w : State} (h : Leads u k) (q : Quiet k w) : EndsOpen u w where
  core := by rw [q.rm, h.rm]
  captured := by
    rw [← h.fc]
    obtain ⟨x, -⟩ | ⟨n, l, x, -⟩ := q.captured
    · exact .inl x
    · exact .inr ⟨n, l, x⟩
  standardFlag := fun x => by rw [q.flags]; exact h.flag x
  locked := fun x y => by rw [q.mode, h.locked x y]
  records := h.records.trans q.stands fun r r' r'' p k x => p.1.trans (k (by rw [h.fc, p.2.1, p.2.2]; exact x))

theorem Leads.ends_locked {k w : State} (h : Leads u k) (l : Locks k w) : EndsLocked u w := by
  have res (q : Res) : k.res q = u.res q := by rw [State.res, h.rm]; rfl
  exact {
    before := by rw [← h.fc, l.before]
    lockdown := l.lockdown
    mode := l.mode
    standard := by rw [l.standard, h.fc]
    critical := fun c x => l.critical c (by rw [h.fc, x])
    standardFlag := fun x => by
      obtain ⟨m, f⟩ := l.flags
      rw [f]; exact h.flag x
    queue := l.queue
    shift := l.shift
    adoption := l.adoption
    stuck := fun x => by rw [l.stuck (by rw [h.rm, x]), h.rm]
    cmd := fun q => by rw [l.cmd, res, h.kept.par]
    conf := fun q => by rw [l.conf, res, h.kept.input, h.rm]
    holders := fun q x => l.holders q (by rw [res, x])
    orphan := l.orphan
    records := h.records.trans (Moves.of_map (P := fun _ r' => r'.state = .forfeit .lockdown ∧ r'.reasons = Reasons.none
      ∧ r'.lease.running = false) l.records fun r => ⟨rfl, rfl, rfl⟩) fun _ _ _ _ k => k }

theorem EndsOpen.closes {w t : State} (h : EndsOpen u w) (c : Closes w t) : EndsOpen u t where
  core := by rw [c.core, h.core]
  captured := by rw [c.fc]; exact h.captured
  standardFlag := fun x => c.flag (h.standardFlag x)
  locked := fun x y => by rw [c.mode, h.locked x y]
  records := by
    rw [c.fc]
    exact h.records.trans c.records fun r r' r'' p k x => (p x).trans k.1

theorem EndsLocked.closes {w t : State} (h : EndsLocked u w) (c : Closes w t) : EndsLocked u t where
  before := h.before
  lockdown := by rw [c.fc, h.lockdown]
  mode := by rw [c.mode, h.mode]
  standard := by rw [c.fc, h.standard]
  critical := fun x y => by rw [c.fc, h.critical x y]
  standardFlag := fun x => c.flag (h.standardFlag x)
  queue := by rw [core_queue c.core, h.queue]
  shift := by rw [core_shift c.core, h.shift]
  adoption := by rw [core_adoption c.core, h.adoption]
  stuck := fun x => by rw [core_stuck c.core, h.stuck x]
  cmd := fun q => by rw [core_cmd c.core, h.cmd]
  conf := fun q => by rw [core_conf c.core, h.conf]
  holders := fun q x => by rw [core_holders c.core, h.holders q x]
  orphan := fun q => by rw [core_orphan c.core, h.orphan]
  records := h.records.trans c.records fun r r' r'' p k => by
    obtain ⟨⟨st, re, le⟩, -⟩ := k
    exact ⟨st.trans p.1, re.trans p.2.1, by rw [le, p.2.2]⟩

theorem end_closes (b : List Slot) (w : State) : Closes w (markChanged b (positionWatches w)) := by
  obtain ⟨m, x, y, e, c, -⟩ := positionWatches_eq w
  have dt : (positionWatches w).dt = w.dt := by rw [e]; rfl
  exact {
    core := by rw [markChanged_rm, e]; exact c
    fc := by rw [markChanged_fc, e]; rfl
    mode := by rw [markChanged_mc, e]; rfl
    flag := fun h => by rw [markChanged_flags, e]; exact h
    records := fun i => dt ▸ ((markChanged_records (positionWatches w) b).mono fun _ _ => markStands) i }

/-- The end of an event in which no RESYNC waits. -/
theorem endEvent_ends (s0 : State) (b : List Slot) (h : u.cp.resync = false) :
    EndsOpen u (endEvent s0 b u) ∨ EndsLocked u (endEvent s0 b u) := by
  obtain ⟨v, w, hv, hw, -, e⟩ := endEvent_parts s0 b h
  have led : Leads u v := hv ▸ suspensions_lead
  rw [e, hw]
  split
  · obtain q | l := deriveAndWatch_ends v
    · exact .inl ((led.mode.ends_open q).closes (end_closes b _))
    · exact .inr ((led.mode.ends_locked l).closes (end_closes b _))
  · exact .inl ((led.ends_open (.refl v)).closes (end_closes b _))

end
end Sys2Proof.Machine
end

section
/-! SUPPORT and O24, O25. Shifts that fail (R42, R43): an ENGAGE's holders are FORFEIT and the capture is made; a DISENGAGE keeps its
command. -/
namespace Sys2Proof.Machine

section
variable {s : State} {r : Res}

/-! ## What an ENGAGE's failure has in common -/

/-- R22, R9: a holder of the resource is FORFEIT, without reasons and without a lease. -/
theorem forfeitRecords_holder (why : ForfeitReason) {i : Nat} {x : Rec} (hx : (s.dt.slot i).record = some x)
    (hh : x.holds r = true) : ((forfeitRecords r why s).dt.slot i).record = some (x.forfeited why) := by
  have e : ((forfeitRecords r why s).dt.slot i).record =
      (s.dt.slot i).record.map (fun x => if x.holds r then x.forfeited why else x) := by
    rw [forfeitRecords, storeTable_dt]
    exact slot_map_record _ _ _ i
  rw [e, hx]
  simp [hh]

/-- R25: a record that is FORFEIT when an event comes to its end is so after it, with LOCKDOWN where lockdown begins there. -/
theorem forfeit_lasts {u : State} {s0 : State} (hu : u.cp.resync = false) {why : ForfeitReason} {i : Nat} {x : Rec}
    (hx : (u.dt.slot i).record = some (x.forfeited why)) : ∃ x' why', ((finish s0 u).dt.slot i).record = some x'
      ∧ x'.state = .forfeit why' ∧ x'.reasons = Reasons.none ∧ x'.lease.running = false
      ∧ ((finish s0 u).fc.lockdown = false → why' = why)
      ∧ (u.fc.lockdown = false → (finish s0 u).fc.lockdown = true → why' = .lockdown) := by
  obtain h | h : EndsOpen u (finish s0 u) ∨ EndsLocked u (finish s0 u) := endEvent_ends s0 _ hu
  · obtain ⟨x', hx', k⟩ := h.records.forward hx
    obtain ⟨st, re, le⟩ := k (.inr (.inr rfl))
    exact ⟨x', why, hx', st, re, by rw [le]; rfl, fun _ => rfl, fun a b => by rw [h.lockdown, a] at b; cases b⟩
  · obtain ⟨x', hx', st, re, le⟩ := h.records.forward hx
    exact ⟨x', .lockdown, hx', st, re, le, by simp [h.lockdown], fun _ _ => rfl⟩

/-- A capture in the standard slot, with its flag, lasts to the end of the event. -/
theorem standard_lasts {u : State} {s0 : State} (hu : u.cp.resync = false) {c : Capture} (h : u.fc.standard = some c)
    (hf : u.cp.flags.standard = true) :
    (finish s0 u).fc.standard = some c ∧ (finish s0 u).cp.flags.standard = true := by
  obtain k | k : EndsOpen u (finish s0 u) ∨ EndsLocked u (finish s0 u) := endEvent_ends s0 _ hu
  · exact ⟨by rw [k.standard, h], k.standardFlag hf⟩
  · exact ⟨by rw [k.standard, h], k.standardFlag hf⟩

/-- A resource with nothing in flight, queued, commanded or held stays so to the end of the event. -/
theorem released_lasts {u : State} {s0 : State} (hu : u.cp.resync = false) (hs : u.rm.shift = none)
    (hc : (u.res r).cmd = false) (hh : (u.res r).holders = 0) :
    (finish s0 u).rm.shift = none ∧ ((finish s0 u).res r).cmd = false ∧ ((finish s0 u).res r).holders = 0
      ∧ ((finish s0 u).res r).conf = (u.res r).conf := by
  obtain k | k : EndsOpen u (finish s0 u) ∨ EndsLocked u (finish s0 u) := endEvent_ends s0 _ hu
  · exact ⟨by rw [core_shift k.core, hs], by rw [core_cmd k.core, hc], by rw [core_holders k.core, hh], core_conf k.core r⟩
  · refine ⟨k.shift, ?_, k.holders r hh, by rw [k.conf]; simp [RM.shiftOf, hs]⟩
    rw [k.cmd, hc]
    cases r <;> rfl

/-- R42: the state in which a failed ENGAGE leaves its resource's reports: FORFEIT holders and the standard fault. -/
def engageFailed (r : Res) (why : ForfeitReason) (c : Cause) (s : State) : State :=
  standardFault c (some r) (forfeitHolders r why (leaveSlot r s))

theorem engageFailed_holder (why : ForfeitReason) (c : Cause) {i : Nat} {x : Rec} (hx : (s.dt.slot i).record = some x)
    (hh : x.holds r = true) : ((afterShift r (engageFailed r why c s)).dt.slot i).record = some (x.forfeited why) := by
  have forfeited := forfeitRecords_holder (s := leaveSlot r s) why (by rw [leaveSlot_dt]; exact hx) hh
  obtain ⟨y, hy, -, -, ey⟩ := (holdersFewer_orders _ r ((leaveSlot r s).dt.holdersOf r)).records.forward forfeited
  obtain rfl := ey rfl
  have kept : ((engageFailed r why c s).dt.slot i).record = some (x.forfeited why) := by
    rw [engageFailed, standardFault_dt]; exact hy
  obtain ⟨z, hz, -, -, ez⟩ := (afterShift_orders _ r).records.forward kept
  rw [hz, ez rfl]

theorem forfeitHolders_frame (why : ForfeitReason) (s : State) : Orders s (forfeitHolders r why (leaveSlot r s)) :=
  (leaveSlot_orders s r).trans (forfeitHolders_orders _ r why)

theorem engageFailed_frame (why : ForfeitReason) (c : Cause) : (afterShift r (engageFailed r why c s)).cp.resync = s.cp.resync
    ∧ (afterShift r (engageFailed r why c s)).fc.lockdown = s.fc.lockdown := by
  have o := afterShift_orders (engageFailed r why c s) r
  have f := forfeitHolders_frame (r := r) why s
  constructor
  · rw [o.cp, engageFailed, standardFault_resync, f.cp]
  · rw [o.fc, engageFailed, standardFault_lockdown, f.fc]

theorem engageFailed_captures (why : ForfeitReason) (c : Cause) (h : s.fc.standard = none) :
    ∃ k, (afterShift r (engageFailed r why c s)).fc.standard = some k ∧ k.cause = c ∧ k.res = some r
      ∧ (afterShift r (engageFailed r why c s)).cp.flags.standard = true := by
  have o := afterShift_orders (engageFailed r why c s) r
  have f := forfeitHolders_frame (r := r) why s
  obtain ⟨e, g⟩ := standardFault_captures (s := forfeitHolders r why (leaveSlot r s)) c (some r) (by rw [f.fc, h])
  exact ⟨_, by rw [o.fc]; exact e, rfl, rfl, by rw [o.cp]; exact g⟩

/-- R42, R31: with nothing queued for it and its output at rest the resource of a failed ENGAGE is released altogether. -/
theorem engageFailed_idle (why : ForfeitReason) (c : Cause) (hq : s.rm.entry r = none) (hc : (s.res r).cmd = false)
    (hh : (s.res r).holders = s.dt.holdersOf r) : ∃ b,
      (engageFailed r why c s).rm = { s.rm.put r { s.res r with conf := s.input r, holders := 0 } with shift := none, stuck := b }
      ∧ (engageFailed r why c s).res r = { s.res r with conf := s.input r, holders := 0 } := by
  obtain ⟨b, e⟩ := leaveSlot_eq s r
  have rm : (forfeitRecords r why (leaveSlot r s)).rm = (leaveSlot r s).rm := storeTable_rm ..
  have res : (forfeitRecords r why (leaveSlot r s)).res r = { s.res r with conf := s.input r } := by
    rw [State.res, rm]; exact leaveSlot_res_same s r
  have idle := holdersFewer_idle (s := forfeitRecords r why (leaveSlot r s)) (r := r) ((leaveSlot r s).dt.holdersOf r)
    (by simpa [RM.entry, rm] using hq) (by rw [rm, leaveSlot_shift]) (by rw [res]; exact hc)
  have set : (engageFailed r why c s).rm = ((forfeitRecords r why (leaveSlot r s)).setRes r
      { s.res r with conf := s.input r, holders := 0 }).rm := by
    rw [engageFailed, standardFault_rm, forfeitHolders, idle, res, leaveSlot_dt, ← hh]
    simp
  refine ⟨b, ?_, ?_⟩
  · rw [set, State.setRes, State.setRm_rm, rm, e]
    cases r <;> rfl
  · rw [State.res, set]
    exact setRes_res_same _ r _

/-- R42, R31: where no head entry can take the slot a failed ENGAGE's resource ends the work released. -/
theorem engageFailed_released (why : ForfeitReason) (c : Cause) (he : s.rm.entry r = none)
    (hq : s.rm.queue = [] ∨ s.rm.closed = true) (hc : (s.res r).cmd = false) (hh : (s.res r).holders = s.dt.holdersOf r) :
    afterShift r (engageFailed r why c s) = checkPumpPath (engageFailed r why c s)
      ∧ (afterShift r (engageFailed r why c s)).rm.shift = none
      ∧ (afterShift r (engageFailed r why c s)).rm.queue = s.rm.queue
      ∧ (afterShift r (engageFailed r why c s)).res r = { s.res r with conf := s.input r, holders := 0 } := by
  obtain ⟨b, erm, eres⟩ := engageFailed_idle why c he hc hh
  have queue : (engageFailed r why c s).rm.queue = s.rm.queue := by rw [erm]; cases r <;> rfl
  have closed : (engageFailed r why c s).rm.closed = s.rm.closed := by rw [erm]; cases r <;> rfl
  have settled := afterShift_settled (s := engageFailed r why c s) (r := r)
    (by simp [State.wanted, eres, hc]) (by rw [queue, closed]; exact .inr hq)
  refine ⟨settled, ?_, ?_, ?_⟩
  · rw [settled, checkPumpPath_shift, erm]
  · rw [settled, checkPumpPath_queue, queue]
  · rw [settled, checkPumpPath_res, eres]

end

/-! ## When the pumping watches report nothing -/

section
variable {s u : State}

theorem modeOf_congr (hf : u.fc.lockdown = s.fc.lockdown) (hr : u.rm = s.rm) (hs : u.mc.splitPos = s.mc.splitPos) :
    u.modeOf = s.modeOf := by
  simp [State.modeOf, hf, hr, hs]

/-- The motion and the park watch have no new episode to report once the mode is derived (R71 to R73). -/
def State.Calm (s : State) : Prop :=
  s.mc.derived = true → (deriveMode s).stationary = true →
    (s.mc.sp = true ∨ s.pcu.roadSum ≤ s.par.motionTolerance) ∧ (s.mc.accepted.park = true ∨ s.mc.parkEp = true)

theorem parkWatch_calm (h : s.mc.sp = true → s.mc.accepted.park = true ∨ s.mc.parkEp = true) : (parkWatch s).fc = s.fc := by
  unfold parkWatch
  split
  · rename_i hx
    split
    · rfl
    · rename_i hy
      simp only [Bool.and_eq_true, Bool.not_eq_true'] at hx
      obtain k | k := h hx.1 <;> simp_all
  · rfl

theorem motionWatch_calm (h : s.pcu.roadSum ≤ s.par.motionTolerance) : ∃ b, motionWatch s = s.setMc { s.mc with motionEp := b } := by
  unfold motionWatch
  split
  · exact ⟨s.mc.motionEp, rfl⟩
  · rw [if_neg (Nat.not_lt.2 h)]
    exact ⟨false, rfl⟩

/-- R71 to R73: with nothing new to report the captures stand. -/
theorem deriveAndWatch_calm (hd : s.mc.derived = true) (h : s.Calm) :
    Quiet (deriveMode s) (deriveAndWatch s) ∧ (deriveAndWatch s).fc = s.fc := by
  have fc : (evaluatePumping (deriveMode s)).fc = s.fc := by
    have park (b : Bool) : (parkWatch ((evaluateScopes (deriveMode s)).setMc
        { (evaluateScopes (deriveMode s)).mc with motionEp := b })).fc = s.fc := by
      rw [parkWatch_calm, State.setMc_fc, evaluateScopes_fc, deriveMode_fc]
      intro hs
      have hs : (deriveMode s).stationary = true := hs
      obtain ⟨-, k | k⟩ := h hd hs
      · exact .inl (by rw [← deriveMode_accepted s] at k; exact k)
      · refine .inr ?_
        have e : ((deriveMode s).mc.parkEp && (deriveMode s).stationary) = true := by rw [deriveMode_parkEp, k, hs]; rfl
        exact e
    unfold evaluatePumping; dsimp only
    split
    · rename_i hb
      simp only [Bool.and_eq_true, Bool.not_eq_true', deriveMode_sp] at hb
      have calm : (evaluateScopes (deriveMode s)).pcu.roadSum ≤ (evaluateScopes (deriveMode s)).par.motionTolerance := by
        rw [(evaluateScopes_kept _).pcu, (evaluateScopes_kept _).par, deriveMode_roadSum, deriveMode_par]
        obtain ⟨k | k, -⟩ := h hd hb.1
        · rw [hb.2] at k; cases k
        · exact k
      obtain ⟨b, e⟩ := motionWatch_calm calm
      rw [e]; exact park b
    · exact park _
  have fc : (deriveAndWatch s).fc = s.fc := by
    have g := (graceAtMode_quiet s.mc.mode (evaluatePumping (deriveMode s))).captured
    obtain ⟨e, -⟩ | ⟨-, -, ⟨c, e⟩, -⟩ := g
    · exact e.trans fc
    · have same : (graceAtMode s.mc.mode (evaluatePumping (deriveMode s))).fc = (evaluatePumping (deriveMode s)).fc := by
        unfold graceAtMode
        repeat' split
        all_goals rfl
      exact same.trans fc
  refine ⟨?_, fc⟩
  obtain q | l := deriveAndWatch_ends s
  · exact q
  · have x := l.lockdown
    rw [fc, ← deriveMode_fc s, l.before] at x
    cases x

/-- An event in which no RESYNC waits and the pumping watches have nothing new to report ends with the captures as they were. -/
theorem endEvent_calm (s0 : State) (b : List Slot) (hr : u.cp.resync = false) (h : u.Calm) :
    EndsOpen u (endEvent s0 b u) ∧ (endEvent s0 b u).fc = u.fc := by
  obtain ⟨v, w, hv, hw, -, e⟩ := endEvent_parts s0 b hr
  have led : Leads u v := hv ▸ suspensions_lead
  have mc : v.mc = u.mc := by rw [hv]; split <;> simp
  have mode : (deriveMode v).mc.mode = (deriveMode u).mc.mode := by
    rw [deriveMode_mode, deriveMode_mode, modeOf_congr (by rw [led.fc]) led.rm (by rw [mc])]
  have calm : v.Calm := fun hd hs => by
    have hs : (deriveMode u).stationary = true := by
      simpa only [State.stationary, mode, deriveMode_rm, led.rm] using hs
    have k := h (by rw [← mc]; exact hd) hs
    rwa [mc, led.kept.pcu, led.kept.par]
  have closed := end_closes b w
  rw [e, closed.fc, hw]
  split
  · rename_i hd
    obtain ⟨q, f⟩ := deriveAndWatch_calm (s := v) (by rw [mc]; exact hd) calm
    rw [hw, if_pos hd] at closed
    exact ⟨(led.mode.ends_open q).closes closed, by rw [f, led.fc]⟩
  · rename_i hd
    rw [hw, if_neg hd] at closed
    exact ⟨(led.ends_open (.refl v)).closes closed, led.fc⟩

/-- While a SPLIT shift is in flight stationary pumping does not hold (R66, R71). -/
theorem calm_of_splitShift (hl : s.fc.lockdown = false) (h : s.rm.shiftOf .split = true) : s.Calm := by
  intro _ hs
  have mode : s.modeOf = .shifting := by simp [State.modeOf, hl, h]
  simp [State.stationary, mode, h] at hs

end
end Sys2Proof.Machine
end

section
/-! O24. A prep timeout (R42, R43, R35). -/
namespace Sys2Proof.Machine

section
variable {s : State} {r : Res} {e : Entry} {rest : List Entry}

/-! ## The slot taken -/

theorem slotTaken_rm (e : Entry) (rest : List Entry) (s : State) : (slotTaken e rest s).rm =
    RM.put { s.rm with
        queue := rest, shift := some ⟨e.res, e.op, .prepare, s.par.prepTimeout * 1000⟩, stuck := s.rm.stuck && e.res != .split }
      e.res { s.res e.res with driftTimer := none, driftArmed := true } := by
  have split (t : State) : (splitTakesSlot e.res t).rm = t.rm := by unfold splitTakesSlot; split <;> rfl
  have start (t : State) : (reportShiftStart e.res t).rm = t.rm := updateRecords_rm t _
  unfold slotTaken; dsimp only
  split
  · rw [start, split]
    obtain ⟨r, -, -⟩ := e
    cases r <;> rfl
  · rw [split]
    obtain ⟨r, -, -⟩ := e
    cases r <;> rfl

@[simp] theorem slotTaken_shift : (slotTaken e rest s).rm.shift = some ⟨e.res, e.op, .prepare, s.par.prepTimeout * 1000⟩ := by
  rw [slotTaken_rm]; obtain ⟨r, -, -⟩ := e; cases r <;> rfl

@[simp] theorem slotTaken_queue : (slotTaken e rest s).rm.queue = rest := by
  rw [slotTaken_rm]; obtain ⟨r, -, -⟩ := e; cases r <;> rfl

theorem slotTaken_res : (slotTaken e rest s).res e.res = { s.res e.res with driftTimer := none, driftArmed := true } := by
  rw [State.res, slotTaken_rm]; obtain ⟨r, -, -⟩ := e; cases r <;> rfl

/-- R22: only an ENGAGE that takes the slot is told to the records. -/
theorem slotTaken_dt (h : e.op = .disengage) : (slotTaken e rest s).dt = s.dt := by
  unfold slotTaken splitTakesSlot; dsimp only
  rw [if_neg (by simp [h])]
  split <;> rfl

theorem slotTaken_kept (e : Entry) (rest : List Entry) (s : State) : Kept s (slotTaken e rest s) := by
  have split (t : State) : Kept t (splitTakesSlot e.res t) := by
    unfold splitTakesSlot; split
    · constructor <;> simp
    · exact .refl t
  have taken (t : State) (m : RM) (x : ResRec) : Kept t (splitTakesSlot e.res ((t.setRm m).setRes e.res x)) :=
    ((setRm_kept t _).trans (setRes_kept _ _ _)).trans (split _)
  unfold slotTaken; dsimp only
  split
  · exact (taken s _ _).trans (updateRecords_kept _ _)
  · exact taken s _ _

/-- R38: a shift whose preconditions do not hold waits in PREPARE. -/
theorem tryActuate_waits {sh : Shift} (hs : s.rm.shift = some sh) (hp : s.preconditions sh.res sh.op = false) :
    tryActuate s = s := by
  simp [tryActuate, hs, hp]

/-- R37: SPLIT's preconditions for ROAD are the engine's speed, NEUTRAL and the wheels at rest. -/
theorem preconditions_splitDisengage {t : State} (h : Kept s t) :
    t.preconditions .split .disengage = s.preconditions .split .disengage := by
  simp [State.preconditions, h.pcu, h.par, MC.accepted, h.deb, h.still]

/-! ## A SPLIT DISENGAGE that fails in PREPARE (R43, R35) -/

/-- R35: SPLIT, commanded PUMP and wanted by nobody, takes the free slot again and waits there. -/
theorem afterShift_splitAgain (hs : s.rm.shift = none) (hq : s.rm.queue = []) (ho : s.rm.closed = false)
    (hl : s.fc.lockdown = false) (hc : (s.res .split).cmd = true) (hh : (s.res .split).holders = 0)
    (hp : s.preconditions .split .disengage = false) : afterShift .split s =
      slotTaken ⟨.split, .disengage, false⟩ []
        ((checkPumpPath s).setRm { (checkPumpPath s).rm with queue := [⟨.split, .disengage, false⟩] }) := by
  have again : reevaluate .split (checkPumpPath s) = appendEntry .split .disengage (checkPumpPath s) :=
    reevaluate_disengages (by simpa using hl) (by simp [RM.entry, hq]) (by simp [State.wanted, hh]) (by simpa using hc)
  have queued : appendEntry .split .disengage (checkPumpPath s) =
      startHead ((checkPumpPath s).setRm { (checkPumpPath s).rm with queue := [⟨.split, .disengage, false⟩] }) := by
    simp [appendEntry, hl, hq]
  have took := startHead_takes (s := (checkPumpPath s).setRm
    { (checkPumpPath s).rm with queue := [⟨.split, .disengage, false⟩] }) (by simpa using hs) rfl (by simpa using hl)
    (by simpa using ho)
  have waits := preconditions_splitDisengage (((checkPumpPath_kept s).trans (setRm_kept _
    { (checkPumpPath s).rm with queue := [⟨.split, .disengage, false⟩] })).trans
    (slotTaken_kept ⟨.split, .disengage, false⟩ [] _))
  unfold afterShift
  rw [again, queued, took, tryActuate_waits slotTaken_shift (waits.trans hp), startHead_stands (.inl (by simp))]

end

/-- Settles O24: a failed ENGAGE's holders are FORFEIT before the event ends and stay so; a failed SPLIT DISENGAGE's resource is
queued again and takes the slot, where its preconditions hold as little as before. -/
theorem prepTimeoutFailsTheShift : Obligations.PrepTimeoutFailsTheShift := by
  unfold Obligations.PrepTimeoutFailsTheShift
  constructor
  · intro sh s hs ho hg hr
    have run : prepExpires s = finish s (afterShift sh.res (engageFailed sh.res .prepTimeout .shiftPrepTimeout s)) := by
      obtain ⟨r, op, st, n⟩ := sh
      obtain rfl : op = _ := ho
      obtain rfl : st = _ := hg
      simp only [prepExpires, hs]
      rfl
    obtain ⟨resync, lockdown⟩ := engageFailed_frame (r := sh.res) (s := s) .prepTimeout .shiftPrepTimeout
    refine ⟨_, congrArg Host.Outcome.next run, fun i x hx hh => ?_, fun hn => ?_, fun hq hc hh => ?_⟩
    · obtain ⟨x', why, hx', st, re, le, same, locked⟩ := forfeit_lasts (s0 := s) (resync.trans hr)
        (engageFailed_holder .prepTimeout .shiftPrepTimeout hx hh)
      exact ⟨x', why, hx', st, re, le, same, fun a b => locked (lockdown.trans a) b⟩
    · obtain ⟨k, hk, cause, res, flag⟩ := engageFailed_captures (r := sh.res) .prepTimeout .shiftPrepTimeout hn
      obtain ⟨hk', flag'⟩ := standard_lasts (s0 := s) (resync.trans hr) hk flag
      exact ⟨k, hk', cause, res, flag'⟩
    · obtain ⟨-, shift, -, res⟩ := engageFailed_released (r := sh.res) .prepTimeout .shiftPrepTimeout
        (by simp [RM.entry, hq]) (.inl hq) hc hh
      obtain ⟨lshift, lcmd, lholders, lconf⟩ := released_lasts (s0 := s) (r := sh.res) (resync.trans hr) shift
        (by rw [res]; exact hc) (by rw [res])
      exact ⟨lshift, lcmd, lholders, lconf.trans (by rw [res])⟩
  · intro n s hs hq ho hr hl hc hh hp
    have run : prepExpires s =
        finish s (afterShift .split (standardFault .shiftPrepTimeout (some .split) (leaveSlot .split s))) := by
      simp only [prepExpires, hs]
      rfl
    generalize hf : standardFault .shiftPrepTimeout (some .split) (leaveSlot .split s) = f at run
    have frm : f.rm = (leaveSlot .split s).rm := by rw [← hf, standardFault_rm]
    have fres (q : Res) : f.res q = (leaveSlot .split s).res q := by rw [← hf, standardFault_res]
    have flock : f.fc.lockdown = false := by rw [← hf, standardFault_lockdown, leaveSlot_fc, hl]
    have fkept : Kept s f := hf ▸ (leaveSlot_kept s .split).trans (standardFault_kept _ _ _)
    have again := afterShift_splitAgain (s := f) (by rw [frm, leaveSlot_shift]) (by rw [frm, leaveSlot_queue, hq])
      (by rw [frm, leaveSlot_closed, ho]) flock (by rw [fres, leaveSlot_res_same]; exact hc)
      (by rw [fres, leaveSlot_res_same]; exact hh) ((preconditions_splitDisengage fkept).trans hp)
    have orders := afterShift_orders f .split
    generalize hu : afterShift .split f = u at *
    have shift : u.rm.shift = some ⟨.split, .disengage, .prepare, s.par.prepTimeout * 1000⟩ := by
      rw [again, slotTaken_shift, State.setRm_par, (checkPumpPath_kept f).par, fkept.par]
    have res : u.res .split = { s.rm.split with conf := s.mc.splitPos, driftTimer := none, driftArmed := true } := by
      have taken : u.res .split = { (checkPumpPath f).res .split with driftTimer := none, driftArmed := true } := by
        rw [again]
        exact slotTaken_res (e := ⟨.split, .disengage, false⟩)
      rw [taken, checkPumpPath_res, fres, leaveSlot_res_same]
      rfl
    have dt : u.dt = (checkPumpPath f).dt := by rw [again, slotTaken_dt rfl]; rfl
    have lock : u.fc.lockdown = false := by rw [orders.fc, flock]
    have resync : u.cp.resync = false := by rw [orders.cp, ← hf, standardFault_resync, leaveSlot_cp, hr]
    obtain ⟨ends, captures⟩ := endEvent_calm s s.dt.slots resync (calm_of_splitShift lock (by simp [RM.shiftOf, shift]))
    have split : (endEvent s s.dt.slots u).rm.split.core = (u.res .split).core := res_core ends.core .split
    refine ⟨_, congrArg Host.Outcome.next run, (core_shift ends.core).trans shift, (core_queue ends.core).trans (by rw [again]; simp), ?_, ?_,
      fun hn => ?_, fun i x hx hd => ?_⟩
    · rw [res] at split
      exact (congrArg ResRec.cmd split :).trans hc
    · rw [res] at split
      exact (congrArg ResRec.conf split :)
    · obtain ⟨k, flag⟩ := standardFault_captures (s := leaveSlot .split s) .shiftPrepTimeout (some .split)
        (by rw [leaveSlot_fc, hn])
      rw [hf] at k flag
      exact ⟨_, (congrArg FC.standard captures :).trans (by rw [orders.fc, k]), rfl, rfl,
        ends.standardFlag (by rw [orders.cp, flag])⟩
    · have hx' : (f.dt.slot i).record = some x := by rw [← hf, standardFault_dt, leaveSlot_dt, hx]
      obtain ⟨y, hy, told⟩ := (checkPumpPath_records f).forward hx'
      obtain rfl : y = x := by
        obtain rfl | ⟨b, rfl⟩ := told
        · rfl
        · exact toldPath_stands _ _ (.inr hd)
      obtain ⟨z, hz, stands⟩ := ends.records.forward (dt ▸ hy)
      obtain ⟨st, re, -⟩ := stands (.inl (by rw [captures]))
      exact ⟨z, hz, st, re⟩

end Sys2Proof.Machine
end

section
/-! O25. A confirm expiry (R42, R43, R165, R166). -/
namespace Sys2Proof.Machine

section
variable {s t u : State} {r : Res}

/-! ## What lasts to the end of an event -/

/-- A capture in the critical slot lasts to the end of the event. -/
theorem critical_lasts {s0 : State} (hu : u.cp.resync = false) {c : Capture} (h : u.fc.critical = some c) :
    (finish s0 u).fc.critical = some c := by
  obtain k | k : EndsOpen u (finish s0 u) ∨ EndsLocked u (finish s0 u) := endEvent_ends s0 _ hu
  · exact k.critical h
  · exact k.critical c h

theorem lockdown_lasts {s0 : State} (hu : u.cp.resync = false) (h : u.fc.lockdown = true) (hm : u.mc.mode = .lockdown) :
    (finish s0 u).fc.lockdown = true ∧ (finish s0 u).mc.mode = .lockdown := by
  obtain k | k : EndsOpen u (finish s0 u) ∨ EndsLocked u (finish s0 u) := endEvent_ends s0 _ hu
  · exact ⟨by rw [k.lockdown, h], k.locked h hm⟩
  · exact ⟨k.lockdown, k.mode⟩

theorem stuck_lasts {s0 : State} (hu : u.cp.resync = false) (hs : u.rm.shift = none) :
    (finish s0 u).rm.stuck = u.rm.stuck := by
  obtain k | k : EndsOpen u (finish s0 u) ∨ EndsLocked u (finish s0 u) := endEvent_ends s0 _ hu
  · exact core_stuck k.core
  · exact k.stuck hs

/-! ## A critical condition beside a resource at rest -/

/-- A resource with nothing in flight, queued, commanded or held. -/
structure Released (r : Res) (s : State) : Prop where
  shift : s.rm.shift = none
  queue : s.rm.queue = []
  cmd : (s.res r).cmd = false
  holders : (s.res r).holders = 0

/-- A critical condition leaves such a resource so, wherever it ends. -/
theorem Ends.released (h : Ends s t) (k : Released r s) : Released r t ∧ (t.res r).conf = (s.res r).conf
    ∧ t.rm.stuck = s.rm.stuck ∧ t.cp.resync = s.cp.resync := by
  obtain q | l := h
  · have res : t.res r = s.res r := by rw [State.res, q.rm]; rfl
    exact ⟨⟨by rw [q.rm, k.shift], by rw [q.rm, k.queue], by rw [res, k.cmd], by rw [res, k.holders]⟩, by rw [res], by rw [q.rm],
      q.resync⟩
  · refine ⟨⟨l.shift, l.queue, ?_, l.holders r k.holders⟩, ?_, l.stuck k.shift, l.resync⟩
    · rw [l.cmd, k.cmd]
      cases r <;> rfl
    · rw [l.conf]
      simp [RM.shiftOf, k.shift]

theorem Released.settled (k : Released r s) : afterShift r s = checkPumpPath s :=
  afterShift_settled (by simp [State.wanted, k.cmd, k.holders]) (.inr (.inl k.queue))

/-- R43: a resource that nobody wants ends its failed DISENGAGE as it is. -/
theorem Released.finish (k : Released r s) (hr : s.cp.resync = false) (s0 : State) :
    ((finish s0 (afterShift r s)).res r).cmd = false ∧ (finish s0 (afterShift r s)).rm.shift = none
      ∧ ((finish s0 (afterShift r s)).res r).conf = (s.res r).conf := by
  rw [k.settled]
  obtain ⟨shift, cmd, -, conf⟩ := released_lasts (u := checkPumpPath s) (s0 := s0) (r := r) (by simpa using hr)
    (by simpa using k.shift) (by simpa using k.cmd) (by simpa using k.holders)
  exact ⟨cmd, shift, conf.trans (by simp)⟩

theorem leaveSlot_released (hq : s.rm.queue = []) (hc : (s.res r).cmd = false) (hh : (s.res r).holders = 0) :
    Released r (leaveSlot r s) :=
  ⟨leaveSlot_shift s r, (leaveSlot_queue s r).trans hq, by rw [leaveSlot_res_same]; exact hc, by rw [leaveSlot_res_same]; exact hh⟩

/-- R43: SPLIT once it has left the slot short of ROAD or at it. -/
def splitLeft (s : State) : State :=
  if ((leaveSlot .split s).res .split).conf = .disengaged then leaveSlot .split s
  else (leaveSlot .split s).setRm { (leaveSlot .split s).rm with stuck := true }

theorem splitLeft_res (s : State) : (splitLeft s).res .split = { s.res .split with conf := s.mc.splitPos } := by
  unfold splitLeft
  split
  · exact leaveSlot_res_same s .split
  · exact (setRm_res _ .split ⟨rfl, rfl, rfl, rfl⟩).trans (leaveSlot_res_same s .split)

theorem splitLeft_stuck (h : s.mc.splitPos ≠ .disengaged) : (splitLeft s).rm.stuck = true := by
  have short : ¬((leaveSlot .split s).res .split).conf = .disengaged := by rw [leaveSlot_res_same]; exact h
  unfold splitLeft
  rw [if_neg short]
  rfl

theorem splitLeft_rest (s : State) : (splitLeft s).rm.shift = none ∧ (splitLeft s).rm.queue = s.rm.queue
    ∧ (splitLeft s).fc = s.fc ∧ (splitLeft s).cp = s.cp := by
  unfold splitLeft
  split <;> simp

theorem disengageUnconfirmed_split (s : State) :
    disengageUnconfirmed .split s = afterShift .split (criticalFault .splitStuck (some .split) (splitLeft s)) := rfl

theorem disengageUnconfirmed_takeOff (h : r ≠ .split) (s : State) :
    disengageUnconfirmed r s = afterShift r (standardFault .ptoLost (some r) (leaveSlot r s)) := by
  cases r
  · exact absurd rfl h
  all_goals rfl

end

/-- Settles O25. -/
theorem confirmExpiryFailsTheShift : Obligations.ConfirmExpiryFailsTheShift := by
  unfold Obligations.ConfirmExpiryFailsTheShift
  intro sh s hs hg hr hq
  constructor
  · intro ho hh
    let p : State := s.setRes sh.res { s.res sh.res with cmd := false }
    have run : confirmExpires s = finish s (afterShift sh.res (engageFailed sh.res .noConfirm .shiftNoConfirm p)) := by
      obtain ⟨r, op, st, n⟩ := sh
      obtain rfl : op = _ := ho
      obtain rfl : st = _ := hg
      simp only [confirmExpires, hs]
      rfl
    have pres : p.res sh.res = { s.res sh.res with cmd := false } := setRes_res_same s _ _
    have pqueue : p.rm.queue = [] := (setRes_queue s _ _).trans hq
    have pinput : p.input sh.res = s.input sh.res := input_of_mc _ rfl rfl
    obtain ⟨resync, lockdown⟩ := engageFailed_frame (r := sh.res) (s := p) .noConfirm .shiftNoConfirm
    obtain ⟨-, shift, -, res⟩ := engageFailed_released (r := sh.res) (s := p) .noConfirm .shiftNoConfirm
      (by simp [RM.entry, pqueue]) (.inl pqueue) (by rw [pres]) (by rw [pres]; exact hh)
    obtain ⟨lshift, lcmd, lholders, lconf⟩ := released_lasts (s0 := s) (r := sh.res) (resync.trans hr) shift
      (by rw [res, pres]) (by rw [res])
    refine ⟨_, congrArg Host.Outcome.next run, lcmd, lshift, ?_, lholders, fun i x hx hh => ?_, fun hn => ?_⟩
    · rw [lconf, res, pinput]
    · obtain ⟨x', why, hx', st, -, -, same, locked⟩ := forfeit_lasts (s0 := s) (resync.trans hr)
        (engageFailed_holder (s := p) .noConfirm .shiftNoConfirm hx hh)
      exact ⟨x', why, hx', st, same, fun a b => locked (lockdown.trans a) b⟩
    · obtain ⟨k, hk, cause, res, flag⟩ := engageFailed_captures (r := sh.res) (s := p) .noConfirm .shiftNoConfirm hn
      exact ⟨k, (standard_lasts (s0 := s) (resync.trans hr) hk flag).1, cause, res⟩
  · intro ho hh hc
    have run : confirmExpires s = finish s (disengageUnconfirmed sh.res s) := by
      obtain ⟨r, op, st, n⟩ := sh
      obtain rfl : op = _ := ho
      obtain rfl : st = _ := hg
      simp only [confirmExpires, hs]
      rfl
    by_cases hsplit : sh.res = .split
    · rw [hsplit] at run hh hc ⊢
      obtain ⟨shift, queue, fc, cp⟩ := splitLeft_rest s
      have left : Released .split (splitLeft s) :=
        ⟨shift, queue.trans hq, by rw [splitLeft_res]; exact hc, by rw [splitLeft_res]; exact hh⟩
      obtain ⟨released, conf, stuck, resync⟩ :=
        (criticalFault_ends .splitStuck (some .split) (splitLeft s)).released left
      have resync := resync.trans ((congrArg CP.resync cp :).trans hr)
      obtain ⟨cmd', shift', conf'⟩ := released.finish resync s
      rw [disengageUnconfirmed_split, released.settled] at run
      rw [released.settled] at cmd' shift' conf'
      refine ⟨_, congrArg Host.Outcome.next run, cmd', shift', ?_, fun _ hp => ⟨?_, fun hl => ⟨fun hn => ?_, fun hf => ?_⟩⟩,
        fun h => absurd rfl h⟩
      · rw [conf', conf, splitLeft_res]; rfl
      · rw [stuck_lasts (by simpa using resync) (by simpa using released.shift), checkPumpPath_stuck, stuck, splitLeft_stuck hp]
      · have filled := criticalFault_fills (s := splitLeft s) .splitStuck (some .split) (by rw [fc, hn]) (by rw [fc, hl])
        exact ⟨_, critical_lasts (by simpa using resync) (by rw [checkPumpPath_fc, filled]), rfl, rfl⟩
      · have locked := criticalFault_locks (s := splitLeft s) .splitStuck (some .split) (by rw [fc, hf]) (by rw [fc, hl])
        exact lockdown_lasts (by simpa using resync) (by simpa using locked.lockdown) (by simpa using locked.mode)
    · have left : Released sh.res (standardFault .ptoLost (some sh.res) (leaveSlot sh.res s)) := by
        obtain ⟨-, queue, cmd, holders⟩ := leaveSlot_released (r := sh.res) hq hc hh
        exact ⟨by simp, by simpa using queue, by simpa using cmd, by simpa using holders⟩
      have resync : (standardFault .ptoLost (some sh.res) (leaveSlot sh.res s)).cp.resync = false := by simpa using hr
      obtain ⟨cmd', shift', conf'⟩ := left.finish resync s
      rw [disengageUnconfirmed_takeOff hsplit] at run
      refine ⟨_, congrArg Host.Outcome.next run, cmd', shift', ?_, fun h => absurd h hsplit, fun _ hn => ?_⟩
      · rw [conf', standardFault_res, leaveSlot_res_same]
      · obtain ⟨k, flag⟩ := standardFault_captures (s := leaveSlot sh.res s) .ptoLost (some sh.res) (by rw [leaveSlot_fc, hn])
        have o := afterShift_orders (standardFault .ptoLost (some sh.res) (leaveSlot sh.res s)) sh.res
        exact ⟨_, (standard_lasts (by rw [o.cp]; exact resync) (by rw [o.fc, k]) (by rw [o.cp, flag])).1, rfl, rfl⟩

end Sys2Proof.Machine
end

section
/-! O22, O23. Shifts that are DONE (R41, R22, R28, R145). -/
namespace Sys2Proof.Machine

/-! ## What an ENGAGE that is DONE has reported -/

/-- R41, R22: the shift has left the slot, its resource is no orphan and its holders are told. -/
def engageReported (r : Res) (s : State) : State :=
  reportShiftDone r ((leaveSlot r s).setRes r { (leaveSlot r s).res r with orphan := false })

section
variable {s : State} {r : Res}

theorem shiftDone_engage (r : Res) (s : State) : shiftDone r .engage s = afterShift r (engageReported r s) := rfl

theorem engageReported_rm (r : Res) (s : State) : (engageReported r s).rm =
    ((leaveSlot r s).setRes r { (leaveSlot r s).res r with orphan := false }).rm := updateRecords_rm _ _

theorem engageReported_res (r : Res) (s : State) (q : Res) : (engageReported r s).res q =
    if q = r then { s.res r with conf := s.input r, orphan := false } else s.res q := by
  have same : (engageReported r s).res q =
      ((leaveSlot r s).setRes r { (leaveSlot r s).res r with orphan := false }).res q := by
    rw [State.res, engageReported_rm]; rfl
  rw [same, setRes_res, leaveSlot_res_same, leaveSlot_res]
  split <;> rfl

@[simp] theorem engageReported_shift (r : Res) (s : State) : (engageReported r s).rm.shift = none := by
  rw [engageReported_rm, setRes_shift, leaveSlot_shift]
@[simp] theorem engageReported_queue (r : Res) (s : State) : (engageReported r s).rm.queue = s.rm.queue := by
  rw [engageReported_rm, setRes_queue, leaveSlot_queue]
@[simp] theorem engageReported_fc (r : Res) (s : State) : (engageReported r s).fc = s.fc := by
  rw [engageReported, reportShiftDone, updateRecords_fc, setRes_fc, leaveSlot_fc]
@[simp] theorem engageReported_cp (r : Res) (s : State) : (engageReported r s).cp = s.cp := by
  rw [engageReported, reportShiftDone, updateRecords_cp, setRes_cp, leaveSlot_cp]
@[simp] theorem engageReported_mc (r : Res) (s : State) : (engageReported r s).mc = s.mc := by
  rw [engageReported, reportShiftDone, updateRecords_mc, setRes_mc, leaveSlot_mc]

theorem engageReported_kept (r : Res) (s : State) : Kept s (engageReported r s) :=
  ((leaveSlot_kept s r).trans (setRes_kept _ _ _)).trans (updateRecords_kept _ _)

theorem engageReported_agrees (r : Res) (h : DrawsAgree s) : DrawsAgree (engageReported r s) :=
  reportShiftDone_agrees r (draws_stand_dt (leaveSlot_agrees r h) rfl (setRes_pumpPath ..) rfl rfl)

theorem engageReported_record (r : Res) (s : State) (i : Nat) : ((engageReported r s).dt.slot i).record =
    (s.dt.slot i).record.map (fun x => if x.holds r then service (engageReported r s).rm x else x) := by
  rw [engageReported_rm]
  exact (updateRecords_record _ _ i).trans (by rw [setRes_dt, leaveSlot_dt])

/-- R8: the resource is ready once its ENGAGE is DONE with nothing queued for it. -/
theorem engageReported_ready (hq : ∀ e ∈ s.rm.queue, e.res ≠ r) (hi : s.input r = .engaged) (hc : (s.res r).cmd = true) :
    (engageReported r s).rm.ready r = true := by
  have res : (engageReported r s).rm.get r = { s.res r with conf := s.input r, orphan := false } := by
    have e := engageReported_res r s r
    rwa [if_pos rfl] at e
  simp only [RM.ready, res, hi, hc, RM.shiftOf, engageReported_shift, engageReported_queue]
  simp only [Bool.and_eq_true, Bool.not_eq_true', List.any_eq_false, beq_iff_eq]
  exact ⟨by decide, fun e he k => hq e he k.1⟩

theorem resource_of_holds {x : Rec} (h : x.holds r = true) : x.demand.resource = some r := by
  simp only [Rec.holds, Bool.and_eq_true, beq_iff_eq] at h
  exact h.1

/-- R22, R8: a holder without a reason is ACTIVE, and stays so through the reports on the pump path. -/
theorem engageReported_active (hr : (engageReported r s).rm.ready r = true) {i : Nat} {x : Rec}
    (hx : (s.dt.slot i).record = some x) (hh : x.holds r = true) (hn : x.reasons = Reasons.none) :
    ((checkPumpPath (engageReported r s)).dt.slot i).record = some { x with state := .active } := by
  have served : ((engageReported r s).dt.slot i).record = some { x with state := .active } := by
    rw [engageReported_record, hx, Option.map_some, if_pos hh]
    have active : serviceState (engageReported r s).rm x = .active := by
      simp [serviceState, hn, Reasons.isNone, Reasons.none, resource_of_holds hh, hr]
    rw [service, active]
  obtain ⟨y, hy, told⟩ := (checkPumpPath_records _).forward served
  obtain rfl | ⟨b, rfl⟩ := told
  · exact hy
  · have stands := toldPath_stands (engageReported r s).rm b (x := { x with state := .active })
      (.inr (not_discharge_of_holds (r := x) hh))
    rw [hy, stands]

/-- R41: with nothing queued, a resource that is commanded and wanted as its ENGAGE is DONE needs no further order. -/
theorem engageReported_settled (hq : s.rm.queue = []) (hl : s.fc.lockdown = false) (hc : (s.res r).cmd = true)
    (hh : 0 < (s.res r).holders) (hu : (s.res r).cut = false) :
    shiftDone r .engage s = checkPumpPath (engageReported r s) := by
  refine (shiftDone_engage r s).trans (afterShift_settled ?_ (.inr (.inl (by simpa using hq))))
  simp [State.wanted, engageReported_res, hl, hc, hh, hu]

theorem ready_core {t : State} (h : t.rm.core = s.rm.core) (q : Res) : t.rm.ready q = s.rm.ready q := by
  have conf : (t.rm.get q).conf = (s.rm.get q).conf := core_conf h q
  have cmd : (t.rm.get q).cmd = (s.rm.get q).cmd := core_cmd h q
  simp [RM.ready, conf, cmd, RM.shiftOf, core_shift h, core_queue h]

/-! ## The mode, the lockouts, the draws and the suspensions at the end of an event -/

theorem setMode_lockouts (m : Mode) (h : LockoutsAgree s) : LockoutsAgree (setMode m s) := by
  unfold setMode; dsimp only
  split
  · exact h
  · split
    · simp [LockoutsAgree]
    · exact ⟨rfl, rfl⟩

theorem positionWatches_rest (w : State) : ∃ a b, (positionWatches w).mc = { w.mc with splitTimer := a, splitReported := b }
    ∧ (positionWatches w).tk = w.tk ∧ (positionWatches w).dt = w.dt ∧ (positionWatches w).fc = w.fc
    ∧ (positionWatches w).rm.core = w.rm.core := by
  obtain ⟨m, a, b, e, c, -⟩ := positionWatches_eq w
  exact ⟨a, b, by rw [e]; rfl, by rw [e]; rfl, by rw [e]; rfl, by rw [e]; rfl, by rw [e]; exact c⟩

section
variable {u : State} (s0 : State) (b : List Slot) (hr : u.cp.resync = false)
include hr

/-- R66, R69: the mode and its lockouts at the end of an event in which lockdown does not begin. -/
theorem endEvent_mode (hd : u.mc.derived = true) (hl : (endEvent s0 b u).fc.lockdown = u.fc.lockdown) :
    (endEvent s0 b u).mc.mode = u.modeOf ∧ (LockoutsAgree u → LockoutsAgree (endEvent s0 b u)) := by
  obtain ⟨v, w, hv, hw, -, e⟩ := endEvent_parts s0 b hr
  have led : Leads u v := hv ▸ suspensions_lead
  have mc : v.mc = u.mc := by rw [hv]; split <;> simp
  have mode : (deriveMode v).mc.mode = u.modeOf := by
    rw [deriveMode_mode, modeOf_congr (by rw [led.fc]) led.rm (by rw [mc])]
  obtain ⟨x, y, pmc, -, -, pfc, -⟩ := positionWatches_rest w
  rw [if_pos hd] at hw
  subst hw
  rw [e, markChanged_mc, pmc]
  rw [e, markChanged_fc, pfc] at hl
  obtain q | l := deriveAndWatch_ends v
  · refine ⟨q.mode.trans mode, fun h => ?_⟩
    have lockouts : LockoutsAgree (deriveMode v) := setMode_lockouts _ (by
      have h : LockoutsAgree v := by unfold LockoutsAgree; rw [mc]; exact h
      exact h)
    unfold LockoutsAgree at lockouts ⊢
    rw [markChanged_mc, pmc]
    dsimp only
    rw [q.mode, q.lockouts.1, q.lockouts.2]
    exact lockouts
  · have before := l.before
    rw [deriveMode_fc, led.fc, ← hl, l.lockdown] at before
    cases before

/-- R143, R146, R147: the end of an event keeps draws and valves right. -/
theorem endEvent_agrees (h : DrawsAgree u) : DrawsAgree (endEvent s0 b u) := by
  obtain ⟨v, w, hv, hw, -, e⟩ := endEvent_parts s0 b hr
  have va : DrawsAgree v := by
    rw [hv]; split
    · exact h
    · exact evaluateSuspensions_agrees h
  have wa : DrawsAgree w := by
    rw [hw]; split
    · obtain q | l := deriveAndWatch_ends v
      · exact q.draws (deriveMode_agrees va)
      · exact l.draws
    · exact va
  obtain ⟨x, y, -, ptk, pdt, pfc, pcore⟩ := positionWatches_rest w
  have pa : DrawsAgree (positionWatches w) := draws_stand_dt wa ptk (core_pumpPath pcore) (by rw [pfc]) pdt
  rw [e]
  refine draws_stand pa (markChanged_tk _ b) (by rw [markChanged_rm]) (by rw [markChanged_fc])
    ((markChanged_records _ b).records_map fun r r' h => ?_)
  obtain rfl | rfl := h
  · rfl
  · rfl

end

/-- R145: a record's foam part takes the suspension that the rule gives its tank. -/
def Rec.Suspended (g : FoamTank → FoamSusp) (r : Rec) : Prop :=
  r.isForfeit = false → ∀ f, r.demand.foam = some f → f.susp = g f.tank

theorem withSuspension_suspended (g : FoamTank → FoamSusp) (r : Rec) : (r.withSuspension g).Suspended g := by
  obtain ⟨d, n, st, rs, l, ch⟩ := r
  intro hf f hd
  obtain ⟨-, -, forfeit⟩ := withSuspension_stands g ⟨d, n, st, rs, l, ch⟩
  rw [hf] at forfeit
  unfold Rec.withSuspension at hd
  rw [← forfeit] at hd
  cases d with
  | discharge o src flow foam =>
    cases foam with
    | none => cases hd
    | some p =>
      obtain rfl : _ = f := Option.some.inj hd
      rfl
  | pumpStat g sp => cases hd
  | pumpRoll g sp => cases hd
  | aux t => cases hd

theorem Rec.Suspended.congr {g : FoamTank → FoamSusp} {r r' : Rec} (h : r.Suspended g) (hd : r'.demand = r.demand)
    (hf : r'.isForfeit = false → r.isForfeit = false) : r'.Suspended g := fun k f e => h (hf k) f (hd ▸ e)

theorem withReason_demand (m : RM) (h : HoldReason) (b : Bool) (p : Rec → Bool) (r : Rec) :
    (Rec.withReason m h b p r).demand = r.demand
      ∧ ((Rec.withReason m h b p r).isForfeit = false → r.isForfeit = false) := by
  unfold Rec.withReason
  cases hf : r.isForfeit
  · exact ⟨by split <;> rfl, fun _ => rfl⟩
  · exact ⟨rfl, fun k => hf ▸ k⟩

theorem withDraw_state (d : Nat) (k : Tank) : (k.withDraw d).state = k.state := by
  unfold Tank.withDraw Tank.withTte
  split <;> rfl

theorem evaluateSuspensions_tanks (s : State) : (evaluateSuspensions s).tk.t1.state = s.tk.t1.state
    ∧ (evaluateSuspensions s).tk.t2.state = s.tk.t2.state := by
  unfold evaluateSuspensions; dsimp only
  split
  · exact ⟨rfl, rfl⟩
  · exact ⟨withDraw_state _ _, withDraw_state _ _⟩

theorem suspensionBy_congr {t : State} (hc : (t.res .ptoa).conf = (s.res .ptoa).conf) (h1 : t.tk.t1.state = s.tk.t1.state)
    (h2 : t.tk.t2.state = s.tk.t2.state) (f : FoamTank) : suspensionBy t f = s.suspension f := by
  have hc : t.rm.ptoa.conf = (s.res .ptoa).conf := hc
  unfold suspensionBy State.suspension
  rw [hc]
  cases f
  · simp only [h1]; rfl
  · simp only [h2]; rfl

/-- R145: where PTOA's position has changed in an event, every foam part stands suspended as the rule gives it at its end. -/
theorem endEvent_suspends {u : State} (s0 : State) (b : List Slot) (hr : u.cp.resync = false)
    (hc : (u.res .ptoa).conf ≠ (s0.res .ptoa).conf) {i : Nat} {r : Rec}
    (hx : ((endEvent s0 b u).dt.slot i).record = some r) : r.Suspended (suspensionBy (endEvent s0 b u)) := by
  obtain ⟨v, w, hv, hw, -, e⟩ := endEvent_parts s0 b hr
  rw [if_neg hc] at hv
  obtain ⟨x, y, -, ptk, pdt, -, pcore⟩ := positionWatches_rest w
  rw [e] at hx ⊢
  obtain ⟨r2, hx, marked⟩ := (markChanged_records _ b).back hx
  rw [pdt] at hx
  suffices k : r2.Suspended (suspensionBy (markChanged b (positionWatches w))) by
    obtain rfl | rfl := marked
    · exact k
    · exact k.congr rfl id
  have suspended {j : Nat} {q : Rec} (hq : (v.dt.slot j).record = some q) : q.Suspended u.suspension := by
    rw [hv, evaluateSuspensions_record] at hq
    obtain ⟨q0, -, rfl⟩ := Option.map_eq_some_iff.1 hq
    exact withSuspension_suspended _ q0
  have same (z : State) (hrm : z.rm = u.rm) (htk : z.tk = v.tk) (hz : w = z) :
      suspensionBy (markChanged b (positionWatches w)) = u.suspension := by
    subst hz
    obtain ⟨t1, t2⟩ := evaluateSuspensions_tanks u
    have core : (markChanged b (positionWatches w)).rm.core = u.rm.core := by rw [markChanged_rm, pcore, hrm]
    have tanks : (markChanged b (positionWatches w)).tk = (evaluateSuspensions u).tk := by rw [markChanged_tk, ptk, htk, hv]
    exact funext (suspensionBy_congr (core_conf core .ptoa) (by rw [tanks, t1]) (by rw [tanks, t2]))
  have rm : v.rm = u.rm := by rw [hv, evaluateSuspensions_rm]
  split at hw
  · obtain q | l := deriveAndWatch_ends v
    · rw [same _ (by rw [q.rm, deriveMode_rm, rm]) (by rw [q.tk, deriveMode_tk]) hw]
      obtain ⟨-, d, -⟩ | ⟨-, -, -, d, -⟩ := q.captured
      · rw [hw, d, deriveMode_dt] at hx
        exact suspended hx
      · rw [hw, d] at hx
        obtain ⟨r1, h1, rfl⟩ := Option.map_eq_some_iff.1 ((slot_map_record _ _ _ i).symm.trans hx)
        rw [show (DT.mk (deriveMode v).dt.slots (deriveMode v).dt.governing) = v.dt from deriveMode_dt v] at h1
        obtain ⟨demand, forfeit⟩ := withReason_demand (deriveMode v).rm .critical true Rec.isPump r1
        exact (suspended h1).congr demand forfeit
    · rw [hw, l.records] at hx
      obtain ⟨r1, -, rfl⟩ := Option.map_eq_some_iff.1 hx
      intro hf
      cases hf
  · rw [same v rm rfl hw]
    rw [hw] at hx
    exact suspended hx

end
end Sys2Proof.Machine
end

section
namespace Sys2Proof.Machine

theorem settleExpires_eq {s : State} {r : Res} {op : ShiftOp} {n : Nat} (hs : s.rm.shift = some ⟨r, op, .settle, n⟩) :
    exec .settleExpiry s = .next (finish s (shiftDone r op s)) := by
  have run : settleExpires s = finish s (shiftDone r op s) := by simp only [settleExpires, hs]; rfl
  exact congrArg Host.Outcome.next run

/-- R5: a PUMP_STAT record that is not FORFEIT holds SPLIT. -/
theorem holds_of_pumpStat {x : Rec} (hk : x.demand.kind = .pumpStat) (hf : x.isForfeit = false) : x.holds .split = true := by
  rw [Rec.holds, hf]
  cases hd : x.demand with
  | pumpStat g sp => rfl
  | pumpRoll g sp => rw [hd] at hk; cases hk
  | aux t => rw [hd] at hk; cases hk
  | discharge o src flow f => rw [hd] at hk; cases hk

/-- Settles O22: SPLIT's ENGAGE is DONE with nothing left to order, and PARK and the wheels at rest leave the pumping watches
nothing to report. -/
theorem splitEngageDone : Obligations.SplitEngageDone := by
  unfold Obligations.SplitEngageDone
  intro n s hs hq hr hl hd hp hc hh hu park road lockouts
  have input : s.input .split = .engaged := hp
  have ready := engageReported_ready (by simp [hq]) input hc
  have active {i : Nat} {x : Rec} := engageReported_active (i := i) (x := x) ready
  have kept := (engageReported_kept .split s).trans (checkPumpPath_kept _)
  have res (q : Res) : (checkPumpPath (engageReported .split s)).res q =
      if q = .split then { s.res .split with conf := .engaged, orphan := false } else s.res q := by
    rw [checkPumpPath_res, engageReported_res, input]
  have run := settleExpires_eq hs
  rw [engageReported_settled (r := .split) hq hl hc hh hu] at run
  have path : (checkPumpPath (engageReported .split s)).rm.pumpPath = true := by
    have conf : (engageReported .split s).rm.split.conf = .engaged := by
      have e : (engageReported .split s).res .split = _ := engageReported_res .split s .split
      exact (congrArg ResRec.conf e :).trans input
    rw [checkPumpPath_rm]
    simp [RM.pathEngaged, conf]
  have uready : (checkPumpPath (engageReported .split s)).rm.ready .split = true := by
    rw [checkPumpPath_rm]; exact ready
  have shift : (checkPumpPath (engageReported .split s)).rm.shift = none := by simp
  have queue : (checkPumpPath (engageReported .split s)).rm.queue = [] := by simpa using hq
  have fc : (checkPumpPath (engageReported .split s)).fc = s.fc := by simp
  have mc : (checkPumpPath (engageReported .split s)).mc = s.mc := by simp
  have resync : (checkPumpPath (engageReported .split s)).cp.resync = false := by simpa using hr
  generalize checkPumpPath (engageReported .split s) = u at *
  have calm : u.Calm := fun _ _ => ⟨.inr (by rw [kept.pcu, kept.par]; exact road), .inl (by rw [mc]; exact park)⟩
  have mode : u.modeOf = .pump := by
    have conf : u.rm.split.conf = .engaged := congrArg ResRec.conf (res .split)
    simp [State.modeOf, fc, hl, mc, hp, RM.shiftOf, shift, conf]
  obtain ⟨ends, captures⟩ := endEvent_calm s s.dt.slots resync calm
  obtain ⟨tmode, tlockouts⟩ := endEvent_mode s s.dt.slots resync (by rw [mc, hd]) (by rw [captures])
  obtain ⟨parkhold, range⟩ := tlockouts (by unfold LockoutsAgree; rw [mc]; exact lockouts)
  have tmode := tmode.trans mode
  refine ⟨_, run, (core_shift ends.core).trans shift, (core_queue ends.core).trans queue,
    (core_conf ends.core .split).trans ?_, (core_cmd ends.core .split).trans ?_, (core_orphan ends.core .split).trans ?_,
    (ready_core ends.core .split).trans uready, (core_pumpPath ends.core).trans path, (core_cmd ends.core .ptor).trans ?_,
    tmode, ?_, ?_, captures.trans fc, fun i x hx hk hf hn => ?_⟩
  · rw [res]; rfl
  · rw [res]; exact hc
  · rw [res]; rfl
  · rw [res]; rfl
  · exact parkhold.trans (by rw [tmode]; rfl)
  · exact range.trans (by rw [tmode]; rfl)
  · obtain ⟨y, hy, stands⟩ := ends.records.forward (active hx (holds_of_pumpStat hk hf) hn)
    exact ⟨y, hy, (stands (.inl (by rw [captures]))).1⟩

section
variable {s u : State} {q : Res}

/-- A resource at its position with nothing in flight keeps it to the end of the event, whether or not lockdown begins. -/
theorem position_lasts {s0 : State} (hu : u.cp.resync = false) (hs : u.rm.shift = none) (hq : u.rm.queue = []) :
    ((finish s0 u).res q).conf = (u.res q).conf ∧ (finish s0 u).rm.shift = none ∧ (finish s0 u).rm.queue = []
      ∧ ((u.res q).orphan = false → ((finish s0 u).res q).orphan = false) := by
  obtain k | k : EndsOpen u (finish s0 u) ∨ EndsLocked u (finish s0 u) := endEvent_ends s0 _ hu
  · exact ⟨core_conf k.core q, (core_shift k.core).trans hs, (core_queue k.core).trans hq, fun h => (core_orphan k.core q).trans h⟩
  · exact ⟨by rw [k.conf]; simp [RM.shiftOf, hs], k.shift, k.queue, fun _ => k.orphan q⟩

/-- Where lockdown does not begin the end of an event moves the drift watches of the resources alone. -/
theorem open_lasts {s0 : State} (hu : u.cp.resync = false) (hl : (finish s0 u).fc.lockdown = false) :
    EndsOpen u (finish s0 u) := by
  obtain k | k : EndsOpen u (finish s0 u) ∨ EndsLocked u (finish s0 u) := endEvent_ends s0 _ hu
  · exact k
  · rw [k.lockdown] at hl; cases hl

end

/-- Settles O23: as O22 for a take-off, where lockdown or the critical slot may take the records at the event's end; a DISENGAGE
leaves its resource released. -/
theorem takeOffShiftsDone : Obligations.TakeOffShiftsDone := by
  unfold Obligations.TakeOffShiftsDone
  intro q n s hq hr hl
  constructor
  · intro _ hs hi hc hh hu
    have ready := engageReported_ready (by simp [hq]) hi hc
    have active {i : Nat} {x : Rec} := engageReported_active (i := i) (x := x) ready
    have res : (checkPumpPath (engageReported q s)).res q = { s.res q with conf := .engaged, orphan := false } := by
      rw [checkPumpPath_res, engageReported_res, if_pos rfl, hi]
    have run := settleExpires_eq hs
    rw [engageReported_settled hq hl hc hh hu] at run
    have uready : (checkPumpPath (engageReported q s)).rm.ready q = true := by
      rw [checkPumpPath_rm]; exact ready
    have agrees (h : DrawsAgree s) : DrawsAgree (checkPumpPath (engageReported q s)) :=
      checkPumpPath_agrees (engageReported_agrees q h)
    have shift : (checkPumpPath (engageReported q s)).rm.shift = none := by simp
    have queue : (checkPumpPath (engageReported q s)).rm.queue = [] := by simpa using hq
    have fc : (checkPumpPath (engageReported q s)).fc = s.fc := by simp
    have resync : (checkPumpPath (engageReported q s)).cp.resync = false := by simpa using hr
    generalize checkPumpPath (engageReported q s) = u at *
    obtain ⟨tconf, tshift, tqueue, torphan⟩ := position_lasts (q := q) (s0 := s) resync shift queue
    refine ⟨_, run, tconf.trans (by rw [res]), torphan (by rw [res]), tshift, tqueue, fun hlock => ?_, fun hlock hcrit i x hx hk hn => ?_,
      ?_, fun h => endEvent_agrees s s.dt.slots resync (agrees h)⟩
    · have k := open_lasts resync hlock
      exact ⟨(core_cmd k.core q).trans (by rw [res]; exact hc), (ready_core k.core q).trans uready⟩
    · obtain ⟨y, hy, stands⟩ := (open_lasts resync hlock).records.forward (active hx hk hn)
      exact ⟨y, hy, (stands (.inl (hcrit.trans (by rw [fc])))).1⟩
    · rintro rfl hp i x f hx hf hd
      have moved : (u.res .ptoa).conf ≠ (s.res .ptoa).conf := by
        rw [res]
        exact fun h => hp h.symm
      exact endEvent_suspends s s.dt.slots resync moved hx hf f hd
  · intro hs hi hc hh
    have left : Released q (leaveSlot q s) := leaveSlot_released hq hc hh
    have run := settleExpires_eq hs
    have settled : shiftDone q .disengage s = checkPumpPath (leaveSlot q s) := left.settled
    rw [settled] at run
    have resync : (checkPumpPath (leaveSlot q s)).cp.resync = false := by simpa using hr
    obtain ⟨-, cmd, -, conf⟩ := released_lasts (s0 := s) (r := q) resync (by simp) (by simpa using hc) (by simpa using hh)
    obtain ⟨-, shift, queue, -⟩ := position_lasts (q := q) (s0 := s) resync (by simp) (by simpa using hq)
    refine ⟨_, run, conf.trans (by simpa using hi), cmd, shift, queue, fun hlock hcrit i x hx hd => ?_⟩
    obtain ⟨y, hy, told⟩ := (checkPumpPath_records (leaveSlot q s)).forward (by rw [leaveSlot_dt]; exact hx)
    obtain rfl : y = x := by
      obtain rfl | ⟨b, rfl⟩ := told
      · rfl
      · exact toldPath_stands _ _ (.inr hd)
    obtain ⟨z, hz, stands⟩ := (open_lasts resync hlock).records.forward hy
    obtain ⟨st, re, -⟩ := stands (.inl (hcrit.trans (by simp)))
    exact ⟨z, hz, st, re⟩

end Sys2Proof.Machine
end

section
/-! O27. The adoption window (R51, R36). -/
namespace Sys2Proof.Machine

/-- The resource a shift moves and its operation. -/
def Shift.job (sh : Shift) : Res × ShiftOp := (sh.res, sh.op)

section
variable {s t : State} {r q : Res}

/-! ## Who is in the slot, who waits, and the orphans -/

/-- The slot's shift is the same but for its stage, and queue, positions and orphan flags stand. -/
structure SameLine (s t : State) : Prop where
  job : t.rm.shift.map Shift.job = s.rm.shift.map Shift.job
  queue : t.rm.queue = s.rm.queue
  orphan : ∀ q, (t.res q).orphan = (s.res q).orphan
  conf : ∀ q, (t.res q).conf = (s.res q).conf

theorem SameLine.refl (s : State) : SameLine s s := ⟨rfl, rfl, fun _ => rfl, fun _ => rfl⟩

theorem SameLine.trans {u : State} (h : SameLine s t) (k : SameLine t u) : SameLine s u :=
  ⟨k.job.trans h.job, k.queue.trans h.queue, fun q => (k.orphan q).trans (h.orphan q), fun q => (k.conf q).trans (h.conf q)⟩

theorem trySettle_line (s : State) : SameLine s (trySettle s) := by
  unfold trySettle
  split
  · rename_i sh hs
    split
    · exact ⟨by simp [hs, Shift.job], rfl, fun q => by cases q <;> rfl, fun q => by cases q <;> rfl⟩
    · exact .refl s
  · exact .refl s

theorem tryActuate_line (s : State) : SameLine s (tryActuate s) := by
  unfold tryActuate
  split
  · rename_i sh hs
    split
    · refine SameLine.trans ⟨?_, ?_, fun q => ?_, fun q => ?_⟩ (trySettle_line _)
      · simp [hs, Shift.job]
      · exact setRes_queue ..
      · obtain ⟨r, op, st, n⟩ := sh
        cases r <;> cases q <;> rfl
      · obtain ⟨r, op, st, n⟩ := sh
        cases r <;> cases q <;> rfl
    · exact .refl s
  · exact .refl s

theorem slotTaken_orphan (e : Entry) (rest : List Entry) (s : State) (q : Res) :
    ((slotTaken e rest s).res q).orphan = (s.res q).orphan := by
  rw [State.res, slotTaken_rm]
  obtain ⟨r, -, -⟩ := e
  cases r <;> cases q <;> rfl

theorem slotTaken_conf (e : Entry) (rest : List Entry) (s : State) (q : Res) :
    ((slotTaken e rest s).res q).conf = (s.res q).conf := by
  rw [State.res, slotTaken_rm]
  obtain ⟨r, -, -⟩ := e
  cases r <;> cases q <;> rfl

/-- R32, R36: an entry takes an open slot at once where nothing is in flight or queued. -/
theorem appendEntry_starts (op : ShiftOp) (hl : s.fc.lockdown = false) (hc : s.rm.closed = false) (hs : s.rm.shift = none)
    (hq : s.rm.queue = []) : (appendEntry r op s).rm.shift.map Shift.job = some (r, op) ∧ (appendEntry r op s).rm.queue = []
      ∧ ∀ q, ((appendEntry r op s).res q).orphan = (s.res q).orphan := by
  have took := startHead_takes (s := s.setRm { s.rm with queue := [⟨r, op, false⟩] }) hs rfl hl hc
  have line := tryActuate_line (slotTaken ⟨r, op, false⟩ [] (s.setRm { s.rm with queue := [⟨r, op, false⟩] }))
  have same : appendEntry r op s = startHead (s.setRm { s.rm with queue := [⟨r, op, false⟩] }) := by simp [appendEntry, hl, hq]
  rw [same, took]
  refine ⟨line.job.trans (by rw [slotTaken_shift]; rfl), line.queue.trans slotTaken_queue, fun q => ?_⟩
  rw [line.orphan, slotTaken_orphan]
  cases q <;> rfl

/-- R32: behind a shift in flight an entry waits at the back of the queue. -/
theorem appendEntry_waits (op : ShiftOp) (hl : s.fc.lockdown = false) (hs : s.rm.shift.isSome = true) :
    appendEntry r op s = s.setRm { s.rm with queue := s.rm.queue ++ [⟨r, op, false⟩] } := by
  unfold appendEntry
  rw [if_neg (by simp [hl])]
  exact startHead_stands (.inl hs)

/-! ## The orphans released one after the other -/

theorem appendEntry_orphan (op : ShiftOp) (s : State) (q : Res) : ((appendEntry r op s).res q).orphan = (s.res q).orphan := by
  unfold appendEntry
  split
  · rfl
  · have queued : ((s.setRm { s.rm with queue := s.rm.queue ++ [⟨r, op, false⟩] }).res q).orphan = (s.res q).orphan := by
      cases q <;> rfl
    obtain e | ⟨e, rest, -, -, -, -, he⟩ := startHead_cases (s.setRm { s.rm with queue := s.rm.queue ++ [⟨r, op, false⟩] })
    · rw [e, queued]
    · rw [he, (tryActuate_line _).orphan, slotTaken_orphan, queued]

theorem releaseOrphan_orphan (r : Res) (s : State) (q : Res) :
    ((releaseOrphan r s).res q).orphan = if q = r then false else (s.res q).orphan := by
  unfold releaseOrphan
  split
  · rw [appendEntry_orphan, setRes_res]
    split <;> rfl
  · rename_i h
    split
    · subst q; simpa using h
    · rfl

theorem releaseOrphans_clear (l : List Res) (hr : r ∈ l) : ∀ s : State,
    ((l.foldl (fun s r => releaseOrphan r s) s).res r).orphan = false := by
  induction l with
  | nil => cases hr
  | cons x l ih =>
    intro s
    by_cases h : r ∈ l
    · exact ih h _
    · obtain rfl | h' := List.mem_cons.1 hr
      · have o := foldl_orders (fun s r => releaseOrphan_orders s r) l (releaseOrphan r s)
        exact o.orphan r (by rw [releaseOrphan_orphan, if_pos rfl])
      · exact absurd h' h

/-- The entry of an orphan that is released. -/
def orphanEntry (r : Res) : Entry := ⟨r, .disengage, false⟩

/-- The orphans among resources other than the one just released stand. -/
theorem orphans_stand {x : Res} {l : List Res} (h : x ∉ l) :
    l.filter (fun r => ((releaseOrphan x s).res r).orphan) = l.filter (fun r => (s.res r).orphan) := by
  refine List.filter_congr fun r hr => ?_
  have other : r ≠ x := fun e => h (e ▸ hr)
  rw [releaseOrphan_orphan, if_neg other]

/-- R51: beside a shift in flight every orphan's entry waits, in order. -/
theorem releaseOrphans_wait (l : List Res) : ∀ s : State, l.Nodup → s.fc.lockdown = false → s.rm.shift.isSome = true →
    (l.foldl (fun s r => releaseOrphan r s) s).rm.shift = s.rm.shift
      ∧ (l.foldl (fun s r => releaseOrphan r s) s).rm.queue =
        s.rm.queue ++ (l.filter (fun r => (s.res r).orphan)).map orphanEntry := by
  induction l with
  | nil => exact fun s _ _ _ => ⟨rfl, by simp⟩
  | cons x l ih =>
    intro s hn hl hs
    obtain ⟨hx, hn⟩ := List.nodup_cons.1 hn
    have one : (releaseOrphan x s).rm.shift = s.rm.shift
        ∧ (releaseOrphan x s).rm.queue = s.rm.queue ++ if (s.res x).orphan then [orphanEntry x] else [] := by
      unfold releaseOrphan
      split
      · rw [appendEntry_waits _ (by exact hl) (by simpa using hs)]
        exact ⟨setRes_shift .., by simp [orphanEntry]⟩
      · simp
    obtain ⟨shift, queue⟩ := ih (releaseOrphan x s) hn (by rw [(releaseOrphan_orders s x).fc, hl]) (by rw [one.1, hs])
    rw [orphans_stand hx] at queue
    refine ⟨shift.trans one.1, queue.trans ?_⟩
    rw [one.2]
    cases h : (s.res x).orphan <;> simp [h]

/-- R51, R36: with nothing in flight or queued the first orphan's entry takes the slot and the others wait. -/
theorem releaseOrphans_start (l : List Res) : ∀ s : State, l.Nodup → s.fc.lockdown = false → s.rm.closed = false →
    s.rm.shift = none → s.rm.queue = [] →
    (l.foldl (fun s r => releaseOrphan r s) s).rm.shift.map Shift.job =
        (l.filter (fun r => (s.res r).orphan)).head?.map (fun r => (r, ShiftOp.disengage))
      ∧ (l.foldl (fun s r => releaseOrphan r s) s).rm.queue = (l.filter (fun r => (s.res r).orphan)).tail.map orphanEntry := by
  induction l with
  | nil => exact fun s _ _ _ hs hq => ⟨by simp [hs], by simpa using hq⟩
  | cons x l ih =>
    intro s hn hl hc hs hq
    obtain ⟨hx, hn⟩ := List.nodup_cons.1 hn
    have o := releaseOrphan_orders s x
    have lock : (releaseOrphan x s).fc.lockdown = false := by rw [o.fc, hl]
    have stand := orphans_stand (s := s) hx
    rw [List.foldl_cons, List.filter_cons]
    split
    · rename_i horphan
      obtain ⟨job, queue, -⟩ := appendEntry_starts (s := s.setRes x { s.res x with orphan := false }) (r := x) .disengage hl
        (by simpa using hc) (by simpa using hs) (by simpa using hq)
      have same : releaseOrphan x s = appendEntry x .disengage (s.setRes x { s.res x with orphan := false }) := by
        simp [releaseOrphan, horphan]
      rw [← same] at job queue
      have some : (releaseOrphan x s).rm.shift.isSome = true := by
        cases h : (releaseOrphan x s).rm.shift with
        | none => rw [h] at job; cases job
        | some sh => rfl
      obtain ⟨shift, waits⟩ := releaseOrphans_wait l _ hn lock some
      rw [stand, queue] at waits
      exact ⟨by rw [shift, job]; rfl, waits⟩
    · rename_i horphan
      have same : releaseOrphan x s = s := by simp [releaseOrphan, horphan]
      rw [same]
      exact ih s hn hl hc hs hq

end

/-- Settles O27. -/
theorem adoptionWindowReleasesOrphans : Obligations.AdoptionWindowReleasesOrphans := by
  unfold Obligations.AdoptionWindowReleasesOrphans
  intro s
  constructor
  · intro ha
    have run : adoptionExpires s = s := by simp [adoptionExpires, ha]
    exact congrArg Host.Outcome.next run
  · intro ha hr
    let p : State := s.setRm { s.rm with adoption := none }
    let u : State := allRes.foldl (fun s r => releaseOrphan r s) p
    have run : adoptionExpires s = finish s u := by
      unfold adoptionExpires
      rw [if_neg (by simpa [Option.isSome_iff_ne_none] using ha)]
    have o : Orders p u := foldl_orders (fun s r => releaseOrphan_orders s r) allRes p
    have resync : u.cp.resync = false := by rw [o.cp]; exact hr
    have clear (r : Res) : (u.res r).orphan = false := releaseOrphans_clear allRes (by cases r <;> simp [allRes]) p
    refine ⟨finish s u, congrArg Host.Outcome.next run, ?_, fun r => ?_, fun hlock hs hq hc => ?_⟩
    · obtain k | k : EndsOpen u (finish s u) ∨ EndsLocked u (finish s u) := endEvent_ends s _ resync
      · exact (core_adoption k.core).trans o.adoption
      · exact k.adoption
    · obtain k | k : EndsOpen u (finish s u) ∨ EndsLocked u (finish s u) := endEvent_ends s _ resync
      · exact (core_orphan k.core r).trans (clear r)
      · exact k.orphan r
    · have k := open_lasts (s0 := s) resync hlock
      have lock : s.fc.lockdown = false := by
        have e : u.fc.lockdown = s.fc.lockdown := by rw [o.fc]; rfl
        rw [← e, ← k.lockdown, hlock]
      have res (r : Res) : p.res r = s.res r := setRm_res s r ⟨rfl, rfl, rfl, rfl⟩
      obtain ⟨job, queue⟩ := releaseOrphans_start allRes p (by decide) lock hc hs hq
      simp only [res] at job queue
      exact ⟨(congrArg (Option.map Shift.job) (core_shift k.core)).trans job, (core_queue k.core).trans queue⟩

end Sys2Proof.Machine
end

section
/-! SUPPORT. What lasts through the end of an event in every case, with a RESYNC in progress too (R183, R184): the captures of the
critical slot, lockdown, the slip watch and the path-both episode. -/
namespace Sys2Proof.Machine

/-- What nothing after the Resource Manager's work undoes. -/
structure Lasts (s t : State) : Prop where
  par : t.par = s.par
  pcu : t.pcu = s.pcu
  ps : t.ps = s.ps
  deb : t.mc.deb = s.mc.deb
  inited : t.mc.inited = s.mc.inited
  lockdown : s.fc.lockdown = true → t.fc.lockdown = true
  slipTimer : t.rm.slipTimer = s.rm.slipTimer
  rearmTimer : t.rm.rearmTimer = s.rm.rearmTimer
  slipArmed : t.rm.slipArmed = s.rm.slipArmed
  pathBoth : t.rm.pathBoth = s.rm.pathBoth
  critical : ∀ c, s.fc.critical = some c → t.fc.critical = some c
  locked : s.fc.lockdown = true → s.mc.mode = .lockdown → t.mc.mode = .lockdown

section
variable {s t u : State}

theorem Lasts.refl (s : State) : Lasts s s :=
  ⟨rfl, rfl, rfl, rfl, rfl, id, rfl, rfl, rfl, rfl, fun _ h => h, fun _ h => h⟩

theorem Lasts.trans (h : Lasts s t) (k : Lasts t u) : Lasts s u where
  par := k.par.trans h.par
  pcu := k.pcu.trans h.pcu
  ps := k.ps.trans h.ps
  deb := k.deb.trans h.deb
  inited := k.inited.trans h.inited
  lockdown := fun x => k.lockdown (h.lockdown x)
  slipTimer := k.slipTimer.trans h.slipTimer
  rearmTimer := k.rearmTimer.trans h.rearmTimer
  slipArmed := k.slipArmed.trans h.slipArmed
  pathBoth := k.pathBoth.trans h.pathBoth
  critical := fun c x => k.critical c (h.critical c x)
  locked := fun x y => k.locked (h.lockdown x) (h.locked x y)

/-- An operation of which the frame is known lasts where it leaves the watches, the critical slot and lockdown. -/
theorem Kept.lasts (k : Kept s t) (h1 : t.rm.slipTimer = s.rm.slipTimer) (h2 : t.rm.rearmTimer = s.rm.rearmTimer)
    (h3 : t.rm.slipArmed = s.rm.slipArmed) (h4 : t.rm.pathBoth = s.rm.pathBoth)
    (hc : ∀ c, s.fc.critical = some c → t.fc.critical = some c)
    (hm : s.fc.lockdown = true → s.mc.mode = .lockdown → t.mc.mode = .lockdown) : Lasts s t :=
  ⟨k.par, k.pcu, k.ps, k.deb, k.inited, k.lockdown, h1, h2, h3, h4, hc, hm⟩

/-- Operations that leave the resources' own watches, the captures and the mode. -/
theorem Lasts.of_eq (k : Kept s t) (hr : t.rm = s.rm) (hf : t.fc.critical = s.fc.critical) (hm : t.mc.mode = s.mc.mode) :
    Lasts s t :=
  k.lasts (by rw [hr]) (by rw [hr]) (by rw [hr]) (by rw [hr]) (fun c x => by rw [hf, x]) fun _ y => by rw [hm, y]

theorem Orders.lasts (o : Orders s t) (k : Kept s t) : Lasts s t :=
  k.lasts o.slipTimer o.rearmTimer o.slipArmed o.pathBoth (fun c x => by rw [o.fc, x]) fun _ y => by rw [o.mode, y]

theorem Quiet.lasts (q : Quiet s t) : Lasts s t :=
  q.kept.lasts (by rw [q.rm]) (by rw [q.rm]) (by rw [q.rm]) (by rw [q.rm]) (fun _ x => q.critical x) fun _ y => by rw [q.mode, y]

theorem Locks.lasts (l : Locks s t) : Lasts s t :=
  by
  obtain ⟨timer, rearm, armed⟩ := l.slip
  exact l.kept.lasts timer rearm armed l.pathBoth l.critical fun _ _ => l.mode

theorem Ends.lasts (h : Ends s t) : Lasts s t := by
  obtain q | l := h
  · exact q.lasts
  · exact l.lasts

theorem deriveMode_lasts (s : State) : Lasts s (deriveMode s) :=
  (deriveMode_kept s).lasts (by simp) (by simp) (by simp) (by simp) (fun c x => by simpa using x)
    fun x _ => by rw [deriveMode_mode, modeOf_lockdown x]

theorem deriveAndWatch_lasts (s : State) : Lasts s (deriveAndWatch s) := (deriveMode_lasts s).trans (deriveAndWatch_ends s).lasts

theorem evaluateSuspensions_lasts (s : State) : Lasts s (evaluateSuspensions s) :=
  .of_eq (evaluateSuspensions_kept s) (by simp) (by simp) (by simp)

theorem markChanged_lasts (b : List Slot) (s : State) : Lasts s (markChanged b s) :=
  .of_eq (markChanged_kept s b) (by simp) (by simp) (by simp)

theorem positionWatches_lasts (s : State) : Lasts s (positionWatches s) := by
  obtain ⟨a, b, mc, -, -, fc, core⟩ := positionWatches_rest s
  exact (positionWatches_kept s).lasts (core_slipTimer core) (core_rearmTimer core) (core_slipArmed core) (core_pathBoth core)
    (fun c x => by rw [fc, x]) fun _ y => by rw [mc]; exact y

/-! ## RESYNC's completion (R184) -/

/-- Marked once more, a record marked before is the same. -/
theorem markSlots_all : ∀ b l : List Slot, (markSlots b l).map (Slot.mapRec Rec.mark) = l.map (Slot.mapRec Rec.mark)
  | [], l => by simp [markSlots]
  | _ :: _, [] => by simp [markSlots]
  | x :: b, y :: l => by
    have twice : (y.mapRec Rec.mark).mapRec Rec.mark = y.mapRec Rec.mark := by
      obtain ⟨g, c⟩ := y
      cases c <;> rfl
    simp only [markSlots, List.map_cons, markSlots_all b l]
    split
    · rw [twice]
    · rfl

/-- R184: the state in which the six steps leave the part before the head entry takes the opened slot. -/
theorem completeResync_eq (b : List Slot) (s : State) : ∃ c, completeResync b s =
    startHead ((((s.setDt { s.dt with slots := s.dt.slots.map (Slot.mapRec Rec.mark) }).setFc
      { s.fc with standard := none, also := [] }).setCp c).setRm { s.rm with closed := false })
    ∧ c.resync = false ∧ c.txn = s.cp.txn.abort
    ∧ c.flags = { lockdown := s.cp.flags.lockdown, critical := s.cp.flags.critical, standard := false,
                  demandChanged := anyRaised (markSlots b s.dt.slots) (s.dt.slots.map (Slot.mapRec Rec.mark)),
                  modeChanged := false, tankChanged := false, presetDone := false, profileDone := false, resyncDone := true } := by
  obtain ⟨c1, e1, f1, -, t1⟩ := storeMarked_eq s (markSlots b s.dt.slots)
  have e1 : markChanged b s = (s.setDt { s.dt with slots := markSlots b s.dt.slots }).setCp c1 := e1
  obtain ⟨c2, e2, f2, -, t2⟩ := storeMarked_eq (clearAtt resyncClears
    ((markChanged b s).setFc { (markChanged b s).fc with standard := none, also := [] }))
    ((markSlots b s.dt.slots).map (Slot.mapRec Rec.mark))
  have e2 : markAll (clearAtt resyncClears ((markChanged b s).setFc { (markChanged b s).fc with standard := none, also := [] })) =
      ((s.setDt { s.dt with slots := (markSlots b s.dt.slots).map (Slot.mapRec Rec.mark) }).setFc
        { s.fc with standard := none, also := [] }).setCp c2 := by
    rw [e1] at e2 ⊢
    exact e2
  unfold completeResync
  dsimp only
  rw [e2, markSlots_all]
  refine ⟨_, rfl, rfl, ?_, ?_⟩
  · rw [e1] at t2
    exact congrArg Txn.abort (t2.trans t1)
  · rw [e1, markSlots_all] at f2
    change c2.flags.insert .resyncDone = _
    rw [f2]
    simp [AttSet.insert, clearAtt, setAttention, minusAtt, resyncClears, allAtt, f1]

theorem completeResync_lasts (b : List Slot) (s : State) : Lasts s (completeResync b s)
    ∧ ∃ x y, (completeResync b s).mc = { s.mc with splitTimer := x, splitReported := y } := by
  have kept := completeResync_kept s b
  obtain ⟨c, e, -⟩ := completeResync_eq b s
  have o := startHead_orders ((((s.setDt { s.dt with slots := s.dt.slots.map (Slot.mapRec Rec.mark) }).setFc
    { s.fc with standard := none, also := [] }).setCp c).setRm { s.rm with closed := false })
  rw [← e] at o
  obtain ⟨x, y, mc⟩ := o.mc
  exact ⟨kept.lasts o.slipTimer o.rearmTimer o.slipArmed o.pathBoth (fun c x => by rw [o.fc]; exact x)
    fun _ y => o.mode.trans y, x, y, mc⟩

/-- RESYNC's completion moves nothing of the Mode Controller but the split position watch. -/
theorem settleResync_lasts (b : List Slot) (s : State) : Lasts s (settleResync b s)
    ∧ ∃ x y, (settleResync b s).mc = { s.mc with splitTimer := x, splitReported := y } := by
  unfold settleResync
  split
  · exact completeResync_lasts b s
  · exact ⟨.refl s, _, _, rfl⟩

/-! ## The end of an event -/

/-- What comes before the derivation of the mode. -/
theorem followUp_parts (s0 : State) (b : List Slot) (s : State) : ∃ v, Lasts s v
    ∧ (∃ x y, v.mc = { s.mc with splitTimer := x, splitReported := y })
    ∧ followUp s0 b s = if s.mc.derived then deriveAndWatch v else v := by
  obtain ⟨settled, x, y, mc⟩ := settleResync_lasts b s
  unfold followUp
  dsimp only
  by_cases h : ((settleResync b s).res .ptoa).conf = (s0.res .ptoa).conf
  · rw [if_pos h]
    exact ⟨_, settled, ⟨x, y, mc⟩, by rw [mc]⟩
  · rw [if_neg h]
    exact ⟨_, settled.trans (evaluateSuspensions_lasts _), ⟨x, y, by rw [evaluateSuspensions_mc, mc]⟩,
      by rw [evaluateSuspensions_mc, mc]⟩

theorem followUp_lasts (s0 : State) (b : List Slot) (s : State) : Lasts s (followUp s0 b s) := by
  obtain ⟨v, lasts, -, e⟩ := followUp_parts s0 b s
  rw [e]
  split
  · exact lasts.trans (deriveAndWatch_lasts v)
  · exact lasts

theorem endEvent_lasts (s0 : State) (b : List Slot) (s : State) : Lasts s (endEvent s0 b s)
    ∧ ∃ x y, (endEvent s0 b s).mc = { (followUp s0 b s).mc with splitTimer := x, splitReported := y } := by
  obtain ⟨settled, x, y, mc⟩ := settleResync_lasts b (positionWatches (followUp s0 b s))
  obtain ⟨x', y', pmc, -⟩ := positionWatches_rest (followUp s0 b s)
  refine ⟨(((followUp_lasts s0 b s).trans (positionWatches_lasts _)).trans settled).trans (markChanged_lasts b _), x, y, ?_⟩
  unfold endEvent
  rw [markChanged_mc, mc, pmc]

theorem finish_lasts (s0 s : State) : Lasts s (finish s0 s) := by
  obtain ⟨h, -⟩ := endEvent_lasts s0 s0.dt.slots s
  exact h

/-! ## The watches of a publication (R72, R84, R86) -/

/-- What the overspeed watch leaves. -/
theorem overspeedWatch_rest (s : State) : (∃ e v g, (overspeedWatch s).mc = { s.mc with overEp := e, overSpeed := v, graceTimer := g })
    ∧ (overspeedWatch s).rm = s.rm ∧ (overspeedWatch s).fc = s.fc ∧ (overspeedWatch s).cp = s.cp
    ∧ (overspeedWatch s).pcu = s.pcu ∧ (overspeedWatch s).par = s.par ∧ (overspeedWatch s).ps = s.ps := by
  unfold overspeedWatch
  dsimp only
  repeat' split
  · have k := updateRecords_kept ((s.setMc { s.mc with overSpeed := s.pcu.road.published }).setMc
        { (s.setMc { s.mc with overSpeed := s.pcu.road.published }).mc with overEp := false })
      (Rec.withReason s.rm .overspeed false (fun r => r.demand.kind == .pumpRoll))
    exact ⟨⟨_, _, _, updateRecords_mc _ _⟩, updateRecords_rm _ _, updateRecords_fc _ _, updateRecords_cp _ _, k.pcu, k.par, k.ps⟩
  all_goals exact ⟨⟨_, _, _, rfl⟩, rfl, rfl, rfl, rfl, rfl, rfl⟩

theorem overspeedWatch_lasts (s : State) : Lasts s (overspeedWatch s) := by
  obtain ⟨⟨e, v, g, mc⟩, rm, fc, -, pcu, par, ps⟩ := overspeedWatch_rest s
  exact ⟨par, pcu, ps, by rw [mc], by rw [mc], fun h => by rw [fc, h], by rw [rm], by rw [rm], by rw [rm], by rw [rm],
    fun c h => by rw [fc, h], fun _ h => by rw [mc]; exact h⟩

end
end Sys2Proof.Machine
end

section
/-! O28. The pump slip watch (R47). -/
namespace Sys2Proof.Machine

section
variable {s : State}

theorem profileValid_iff : s.profileValid = true ↔ s.ps.validity = .valid := by simp [State.profileValid]

/-- R47: slip, with the distance to the expected speed as an absolute value. -/
theorem slipping_iff : s.slipping = true ↔ s.mc.mode = .pump ∧ s.mc.accepted.pumprange = true
    ∧ s.par.idle + 200 ≤ s.pcu.eng.published
    ∧ ((s.pcu.eng.published * s.par.ratioNum / s.par.ratioDen * s.par.slipTolerance / 100 : Nat) : Int) <
      |(s.pcu.pump.published : Int) - (s.pcu.eng.published * s.par.ratioNum / s.par.ratioDen : Nat)| := by
  have distance (e m a : Nat) : a < max (e - m) (m - e) ↔ (a : Int) < |(m : Int) - (e : Nat)| := by
    rcases Nat.le_total e m with h | h
    · rw [abs_of_nonneg (by omega)]
      omega
    · rw [abs_of_nonpos (by omega)]
      omega
  simp only [State.slipping, expectedSpeed, Bool.and_eq_true, beq_iff_eq, decide_eq_true_eq, distance, and_assoc]

/-- R47: an evaluation of the slip watch moves its two timers alone. -/
theorem slipWatch_eq (s : State) : ∃ a b, slipWatch s = s.setRm { s.rm with slipTimer := a, rearmTimer := b }
    ∧ (s.ps.validity ≠ .valid → a = s.rm.slipTimer ∧ b = s.rm.rearmTimer)
    ∧ (s.ps.validity = .valid → s.slipping = true → a = some (s.rm.slipTimer.getD 2000) ∧ b = none)
    ∧ (s.ps.validity = .valid → s.slipping = false → a = none
      ∧ b = if s.rm.slipArmed then s.rm.rearmTimer else some (s.rm.rearmTimer.getD 2000)) := by
  unfold slipWatch
  split
  · rename_i h
    have h : s.ps.validity ≠ .valid := fun e => by simp [profileValid_iff.2 e] at h
    exact ⟨_, _, rfl, fun _ => ⟨rfl, rfl⟩, fun e => absurd e h, fun e => absurd e h⟩
  · rename_i h
    have h : s.ps.validity = .valid := profileValid_iff.1 (by simpa using h)
    split
    · rename_i k
      exact ⟨_, _, rfl, fun e => absurd h e, fun _ _ => ⟨rfl, rfl⟩, fun _ e => by rw [k] at e; cases e⟩
    · rename_i k
      exact ⟨_, _, rfl, fun e => absurd h e, fun _ e => absurd e k, fun _ _ => ⟨rfl, rfl⟩⟩

/-- R95, R98: the state of a publication in which the slip watch evaluates. -/
def cutsTaken (s : State) : State := tryActuate (cutOut .ptob (cutOut .ptoa (s.setPcu (s.pcu.window s.par s.mc.still))))

theorem cutsTaken_orders (s : State) : Orders (s.setPcu (s.pcu.window s.par s.mc.still)) (cutsTaken s) :=
  ((cutOut_orders _ .ptoa).trans (cutOut_orders _ .ptob)).trans (tryActuate_orders _)

theorem cutOut_kept (r : Res) (s : State) : Kept s (cutOut r s) := by
  have cut (t : State) : Kept (s.setRes r { s.res r with cut := true, orphan := false }) t → Kept s (reportCut r true t) :=
    fun k => ((setRes_kept s r _).trans k).trans (setReason_kept _ _ _ _)
  unfold cutOut; dsimp only
  split
  · refine cut _ ?_
    repeat' split
    · exact appendEntry_kept _ r _
    · exact stoppedWanted_kept _ r
    · exact .refl _
  · exact .refl s

theorem cutsTaken_kept (s : State) : Kept (s.setPcu (s.pcu.window s.par s.mc.still)) (cutsTaken s) :=
  ((cutOut_kept .ptoa _).trans (cutOut_kept .ptob _)).trans (tryActuate_kept _)

/-- R95, R98: a publication in its parts. -/
theorem windowExpires_eq (h : s.pcu.windowTimer.isSome = true) : exec .speedWindow s =
    .next (finish s (overspeedWatch (motionWatch (followUp s s.dt.slots (slipWatch (cutsTaken s)))))) := by
  have run : windowExpires s = finish s (overspeedWatch (motionWatch (followUp s s.dt.slots (slipWatch (cutsTaken s))))) := by
    unfold windowExpires
    rw [if_neg (by simpa [Option.isSome_iff_ne_none] using h)]
    rfl
  exact congrArg Host.Outcome.next run

/-- What a publication does after the slip watch leaves its timers. -/
theorem window_lasts (s : State) : Lasts (slipWatch (cutsTaken s))
    (finish s (overspeedWatch (motionWatch (followUp s s.dt.slots (slipWatch (cutsTaken s)))))) :=
  (((followUp_lasts s s.dt.slots _).trans (motionWatch_ends _).lasts).trans (overspeedWatch_lasts _)).trans (finish_lasts s _)

end

/-- R47: what the expiries of the two slip timers do. -/
theorem slipTimers_expire (s : State) :
    (s.rm.slipTimer.isSome = true → s.rm.slipArmed = true → s.ps.validity = .valid → exec .slipExpiry s =
      .next (standardFault .pumpSlip (some .split) (s.setRm { s.rm with slipTimer := none, slipArmed := false })))
    ∧ (s.rm.slipTimer.isSome = true → s.rm.slipArmed = false ∨ s.ps.validity ≠ .valid →
      exec .slipExpiry s = .next { s with rm := { s.rm with slipTimer := none } })
    ∧ (s.rm.rearmTimer.isSome = true →
      exec .rearmExpiry s = .next { s with rm := { s.rm with rearmTimer := none, slipArmed := true } })
    ∧ (s.rm.slipTimer = none → exec .slipExpiry s = .next s) ∧ (s.rm.rearmTimer = none → exec .rearmExpiry s = .next s) := by
  have running {t : Timer} (h : t.isSome = true) : ¬t.isNone = true := by simpa [Option.isSome_iff_ne_none] using h
  refine ⟨fun h ha hv => congrArg Host.Outcome.next (?_ : slipExpires s = _),
    fun h ho => congrArg Host.Outcome.next (?_ : slipExpires s = _), fun h => congrArg Host.Outcome.next (?_ : rearmExpires s = _),
    fun h => congrArg Host.Outcome.next (?_ : slipExpires s = _), fun h => congrArg Host.Outcome.next (?_ : rearmExpires s = _)⟩
  · rw [slipExpires, if_neg (running h), if_pos (by simp [ha, profileValid_iff.2 hv])]
  · have off : ¬(s.rm.slipArmed && s.profileValid) = true := by
      rw [Bool.and_eq_true, profileValid_iff]
      rintro ⟨a, v⟩
      obtain k | k := ho
      · rw [a] at k; cases k
      · exact k v
    rw [slipExpires, if_neg (running h), if_neg off]
    rfl
  · rw [rearmExpires, if_neg (running h)]
    rfl
  · simp [slipExpires, h]
  · simp [rearmExpires, h]

/-- Settles O28. -/
theorem pumpSlipWatch : Obligations.PumpSlipWatch := by
  unfold Obligations.PumpSlipWatch
  refine ⟨fun s => ?_, fun s h => ⟨_, windowExpires_eq h, ?_⟩⟩
  · obtain ⟨reports, stops, rearms, idle, rearmIdle⟩ := slipTimers_expire s
    refine ⟨fun h ha hv => ⟨_, reports h ha hv, standardFault_rm .., ?_, fun hn => ?_, fun hf => ?_⟩, stops, rearms, idle, rearmIdle⟩
    · obtain ⟨f, p, e⟩ := standardFault_eq (s.setRm { s.rm with slipTimer := none, slipArmed := false }) .pumpSlip (some .split)
      rw [e]
      exact ⟨rfl, rfl, rfl, rfl, rfl, rfl, rfl, rfl, rfl, rfl, rfl⟩
    · unfold standardFault
      rw [State.setRm_fc, hn]
      exact ⟨_, rfl, rfl, rfl, rfl⟩
    · obtain ⟨c, hc⟩ := Option.isSome_iff_exists.1 hf
      unfold standardFault
      rw [State.setRm_fc, hc]
      exact ⟨rfl, rfl⟩
  · have lasts := window_lasts s
    have orders := cutsTaken_orders s
    have kept := cutsTaken_kept s
    obtain ⟨a, b, e, invalid, slips, calm⟩ := slipWatch_eq (cutsTaken s)
    generalize finish s (overspeedWatch (motionWatch (followUp s s.dt.slots (slipWatch (cutsTaken s))))) = t at *
    have armed : (cutsTaken s).rm.slipArmed = s.rm.slipArmed := orders.slipArmed
    have timer : (cutsTaken s).rm.slipTimer = s.rm.slipTimer := orders.slipTimer
    have rearm : (cutsTaken s).rm.rearmTimer = s.rm.rearmTimer := orders.rearmTimer
    have ps : (cutsTaken s).ps = s.ps := kept.ps
    have par : (cutsTaken s).par = s.par := kept.par
    have mode : (cutsTaken s).mc.mode = s.mc.mode := orders.mode
    have accepted : (cutsTaken s).mc.accepted = s.mc.accepted := orders.accepted
    have pcu : t.pcu = (cutsTaken s).pcu := by rw [lasts.pcu, e]; rfl
    have slipping := slipping_iff (s := cutsTaken s)
    rw [mode, accepted, par, ← pcu] at slipping
    rw [ps, timer, rearm] at invalid
    rw [ps, timer] at slips
    rw [ps, armed, rearm] at calm
    rw [lasts.slipArmed, lasts.slipTimer, lasts.rearmTimer, e]
    refine ⟨armed, invalid, fun hv k => slips hv (slipping.2 k), fun hv k => calm hv ?_⟩
    exact Bool.eq_false_iff.2 fun x => k (slipping.1 x)

end Sys2Proof.Machine
end

section
/-! O26. The drift watches (R45). -/
namespace Sys2Proof.Machine

section
variable {s t : State} {r q : Res}

/-! ## Positions that follow their inputs -/

theorem takeConfirm_res (r : Res) (s : State) (q : Res) :
    (takeConfirm r s).res q = if q = r then { s.res r with conf := s.input r } else s.res q := by
  unfold takeConfirm; dsimp only
  split
  · rename_i h
    split
    · subst q; rw [← h]
    · rfl
  · split
    · rw [← setRes_res]
      cases q <;> rfl
    · exact setRes_res ..

theorem takeConfirm_shift (r : Res) (s : State) : (takeConfirm r s).rm.shift = s.rm.shift := by
  unfold takeConfirm; dsimp only
  repeat' split
  · rfl
  · exact setRes_shift ..
  · exact setRes_shift ..

theorem followConfirm_eq (h : s.rm.shift = none) : followConfirm r s = checkPumpPath (driftLapses r (takeConfirm r s)) := by
  simp [followConfirm, RM.shiftOf, h]

theorem followConfirm_shift (h : s.rm.shift = none) : (followConfirm r s).rm.shift = none := by
  rw [followConfirm_eq h, checkPumpPath_shift, driftLapses_eq, setRes_shift, takeConfirm_shift, h]

theorem followConfirm_res (h : s.rm.shift = none) (q : Res) :
    (followConfirm r s).res q = if q = r then (takeConfirm r s).lapsed r else s.res q := by
  rw [followConfirm_eq h, checkPumpPath_res, driftLapses_eq, setRes_res]
  split
  · rfl
  · rename_i hq
    rw [takeConfirm_res, if_neg hq]

theorem followConfirms_shift (l : List Res) : ∀ s : State, s.rm.shift = none →
    (l.foldl (fun s r => followConfirm r s) s).rm.shift = none := by
  induction l with
  | nil => exact fun s h => h
  | cons r l ih => exact fun s h => ih _ (followConfirm_shift h)

theorem followConfirm_kept (r : Res) (s : State) : Kept s (followConfirm r s) := by
  unfold followConfirm; split
  · exact .refl s
  · exact ((takeConfirm_kept s r).trans (driftLapses_kept _ r)).trans (checkPumpPath_kept _)

/-- Whether a take-off's position and its command are apart. -/
def State.apart (s : State) (r : Res) : Prop := (s.res r).conf ≠ if (s.res r).cmd then Pos.engaged else Pos.disengaged

theorem driftCondition_iff (hr : r ≠ .split) (hs : s.rm.shift = none) : s.driftCondition r = true ↔ s.apart r := by
  simp [State.driftCondition, State.apart, RM.shiftOf, hs, hr, Pos.ofBool]

/-- R28, R45: what a take-off's record is once its position has followed its input. -/
theorem followConfirm_takeOff (hr : r ≠ .split) (hs : s.rm.shift = none) (hv : s.ps.validated = true) :
    (followConfirm r s).res r =
      if s.input r = if (s.res r).cmd then Pos.engaged else Pos.disengaged then
        { s.res r with conf := s.input r, driftTimer := none, driftArmed := true }
      else { s.res r with conf := s.input r } := by
  have cond := driftCondition_iff (s := takeConfirm r s) hr (by rw [takeConfirm_shift, hs])
  unfold State.apart at cond
  rw [takeConfirm_res, if_pos rfl] at cond
  rw [followConfirm_res hs, if_pos rfl, State.lapsed, (takeConfirm_kept s r).ps, hv, takeConfirm_res, if_pos rfl]
  dsimp only at cond ⊢
  split
  · rename_i h
    rw [if_pos]
    by_contra k
    simp [cond.2 k] at h
  · rename_i h
    rw [if_neg]
    intro k
    have off : (takeConfirm r s).driftCondition r = false := Bool.eq_false_iff.2 fun x => cond.1 x k
    simp [off] at h

theorem followConfirms_other (l : List Res) (hr : r ∉ l) : ∀ s : State, s.rm.shift = none →
    (l.foldl (fun s r => followConfirm r s) s).res r = s.res r := by
  induction l with
  | nil => exact fun s _ => rfl
  | cons x l ih =>
    intro s hs
    obtain ⟨hx, hl⟩ : r ≠ x ∧ r ∉ l := by simpa using hr
    rw [List.foldl_cons, ih hl _ (followConfirm_shift hs), followConfirm_res hs, if_neg hx]

/-- R28, R45: all four positions have followed their inputs; a take-off's watch has lapsed where it is back at its command. -/
theorem followConfirms_takeOff (hr : r ≠ .split) (l : List Res) (hm : r ∈ l) (hn : l.Nodup) : ∀ s : State, s.rm.shift = none →
    s.ps.validated = true → (l.foldl (fun s r => followConfirm r s) s).res r =
      if s.input r = if (s.res r).cmd then Pos.engaged else Pos.disengaged then
        { s.res r with conf := s.input r, driftTimer := none, driftArmed := true }
      else { s.res r with conf := s.input r } := by
  induction l with
  | nil => cases hm
  | cons x l ih =>
    intro s hs hv
    obtain ⟨hx, hn⟩ := List.nodup_cons.1 hn
    rw [List.foldl_cons]
    by_cases h : r = x
    · subst h
      rw [followConfirms_other l hx _ (followConfirm_shift hs), followConfirm_takeOff hr hs hv]
    · have kept := followConfirm_kept x s
      have res : (followConfirm x s).res r = s.res r := by rw [followConfirm_res hs, if_neg h]
      rw [ih (List.mem_of_ne_of_mem h hm) hn _ (followConfirm_shift hs) (by rw [kept.ps, hv]), kept.input, res]

/-! ## A watch through the end of an event -/

/-- What a critical condition leaves of a drift watch whose condition holds after it. -/
theorem Ends.watch (h : Ends s t) (hc : t.driftCondition r = true) :
    (t.res r).driftTimer = (s.res r).driftTimer ∧ (t.res r).driftArmed = (s.res r).driftArmed := by
  obtain q | l := h
  · rw [State.res, q.rm]; exact ⟨rfl, rfl⟩
  · obtain ⟨timer, armed⟩ := l.drift r
    simp only [hc, Bool.not_true, Bool.and_false, Bool.false_eq_true, if_false] at timer armed
    exact ⟨timer, armed⟩

theorem Ends.shift (h : Ends s t) (hs : s.rm.shift = none) : t.rm.shift = none := by
  obtain q | l := h
  · rw [q.rm, hs]
  · exact l.shift

theorem Ends.resync (h : Ends s t) : t.cp.resync = s.cp.resync := by
  obtain q | l := h
  · exact q.resync
  · exact l.resync

/-- R45: a take-off's watch at the end of an event in which nothing is in flight: while its position and its command are apart an
armed watch starts a stopped timer; otherwise the timer stops and the watch is armed. -/
theorem endEvent_watch {u x : State} (s0 : State) (b : List Slot) (hr : r ≠ .split) (h : Ends u x) (hx : x.cp.resync = false)
    (hs : u.rm.shift = none) (hv : u.ps.validated = true) :
    ((endEvent s0 b x).apart r →
      ((endEvent s0 b x).res r).driftArmed = (u.res r).driftArmed
      ∧ ((endEvent s0 b x).res r).driftTimer =
        if (u.res r).driftTimer = none ∧ (u.res r).driftArmed = true then some u.par.confirmTime else (u.res r).driftTimer)
    ∧ (¬(endEvent s0 b x).apart r →
      ((endEvent s0 b x).res r).driftTimer = none ∧ ((endEvent s0 b x).res r).driftArmed = true) := by
  obtain ⟨v, w, hv', hw, -, e⟩ := endEvent_parts s0 b hx
  have led : Leads x v := hv' ▸ suspensions_lead
  have vres : v.res r = x.res r := by rw [State.res, led.rm]; rfl
  have vshift : v.rm.shift = none := by rw [led.rm, h.shift hs]
  have same : (deriveMode v).res r = v.res r := by rw [State.res, deriveMode_rm]; rfl
  have chain : Ends (deriveMode v) w ∨ w = v := by
    split at hw
    · exact .inl (hw ▸ deriveAndWatch_ends v)
    · exact .inr hw
  have wshift : w.rm.shift = none := by
    obtain k | k := chain
    · exact k.shift (by rw [deriveMode_rm, vshift])
    · rw [k, vshift]
  have wps : w.ps.validated = true := by
    have k : w.ps = v.ps := by
      obtain k | k := chain
      · exact (k.lasts.ps).trans (deriveMode_kept v).ps
      · rw [k]
    rw [k, led.kept.ps, h.lasts.ps, hv]
  have wpar : w.par = u.par := by
    have k : w.par = v.par := by
      obtain k | k := chain
      · exact (k.lasts.par).trans (deriveMode_kept v).par
      · rw [k]
    rw [k, led.kept.par, h.lasts.par]
  have wwatch (hc : w.driftCondition r = true) : (w.res r).driftTimer = (u.res r).driftTimer
      ∧ (w.res r).driftArmed = (u.res r).driftArmed := by
    have wv : (w.res r).driftTimer = (v.res r).driftTimer ∧ (w.res r).driftArmed = (v.res r).driftArmed := by
      obtain k | k := chain
      · obtain ⟨a, b⟩ := k.watch hc
        exact ⟨a.trans (by rw [same]), b.trans (by rw [same])⟩
      · rw [k]; exact ⟨rfl, rfl⟩
    have xu : (x.res r).driftTimer = (u.res r).driftTimer ∧ (x.res r).driftArmed = (u.res r).driftArmed := by
      obtain q | l := h
      · rw [State.res, q.rm]; exact ⟨rfl, rfl⟩
      · have rm : w.rm = x.rm := by
          obtain (q | l') | k := chain
          · rw [q.rm, deriveMode_rm, led.rm]
          · have before := l'.before
            rw [deriveMode_fc, led.fc, l.lockdown] at before
            cases before
          · rw [k, led.rm]
        exact Ends.watch (.inr l) (by rw [← hc]; exact (driftCondition_core (by rw [rm]) r).symm)
    exact ⟨wv.1.trans (by rw [vres, xu.1]), wv.2.trans (by rw [vres, xu.2])⟩
  obtain ⟨m, a, c, ep, core, watched⟩ := positionWatches_eq w
  have rm : (endEvent s0 b x).rm = m := by rw [e, markChanged_rm, ep]; rfl
  have res : (endEvent s0 b x).res r = w.watched r := by rw [State.res, rm]; exact watched r
  have off : (endEvent s0 b x).apart r ↔ w.driftCondition r = true := by
    have core : (endEvent s0 b x).rm.core = w.rm.core := by rw [rm, core]
    rw [← driftCondition_iff hr ((core_shift core).trans wshift), driftCondition_core core]
  rw [off, res, State.watched, State.lapsed, wps, ← wpar]
  constructor
  · intro hc
    obtain ⟨timer, armed⟩ := wwatch hc
    rw [← timer, ← armed, hc]
    cases ht : (w.res r).driftTimer <;> cases ha : (w.res r).driftArmed <;> simp [ht, ha]
  · intro hc
    simp [hc]

end
end Sys2Proof.Machine
end

section
/-! O26, continued: the sample at which the watch evaluates, and the expiry of its timer. -/
namespace Sys2Proof.Machine

section
variable {s : State} {r : Res} {l : Inputs}

/-! ## A later sample (R58, R60) -/

/-- R58: the sample timer started again and the lines at these levels. -/
def sampleStarted (l : Inputs) (s : State) : State := (s.setMc { s.mc with sampleTimer := some 5 }).setSys { s.sys with lines := l }

/-- R58: the eight inputs debounced. -/
def debounced (l : Inputs) (s : State) : State :=
  (sampleStarted l s).setMc { (sampleStarted l s).mc with deb := sampleAll s.par.debounce l s.mc.deb }

/-- R58, R60: a sample after the first. -/
theorem inputSample_later (hs : s.mc.sampleTimer.isSome = true) (hi : s.mc.inited = true) : exec (.inputSample l) s =
    .next (if (debounced l s).mc.accepted = s.mc.accepted then debounced l s
      else finish (sampleStarted l s) (inputChange (debounced l s))) := by
  have run : inputSampled l s = laterSample l (sampleStarted l s) := by
    unfold inputSampled
    rw [if_neg (by simpa [Option.isSome_iff_ne_none] using hs)]
    exact if_pos hi
  have later : laterSample l (sampleStarted l s) = if (debounced l s).mc.accepted = s.mc.accepted then debounced l s
      else finish (sampleStarted l s) (inputChange (debounced l s)) := rfl
  exact congrArg Host.Outcome.next (run.trans later)

/-- R46: the path-both episode takes its condition, and what else happens is the capture or lockdown. -/
theorem pathBothTest_ends (s : State) :
    Ends (s.setRm { s.rm with pathBoth := s.pathBothCondition }) (pathBothTest s) := by
  unfold pathBothTest
  split
  · rename_i h
    rw [h]
    split
    · rename_i k
      have e : s.setRm { s.rm with pathBoth := true } = s := by rw [← k]; rfl
      rw [e]; exact .refl s
    · exact criticalFault_ends _ _ _
  · rename_i h
    rw [Bool.eq_false_iff.2 h]
    exact .refl _

theorem stageChange_idle (h : s.rm.shift = none) : stageChange s = s := by simp [stageChange, h]

/-- R60: an input change beside an empty slot. -/
theorem inputChange_idle (hv : s.ps.validated = true) (hs : s.rm.shift = none) :
    inputChange s = pathBothTest (allRes.foldl (fun s r => followConfirm r s) s) := by
  unfold inputChange
  rw [if_pos hv, stageChange_idle (followConfirms_shift allRes s hs)]

theorem followConfirms_orders (s : State) : Orders s (allRes.foldl (fun s r => followConfirm r s) s) :=
  foldl_orders (fun s r => followConfirm_orders s r) allRes s

theorem followConfirms_kept (s : State) : Kept s (allRes.foldl (fun s r => followConfirm r s) s) :=
  foldl_kept _ (fun t r => followConfirm_kept r t) _ _

/-- R45: the watch at a sample that changes an accepted level with nothing in flight. -/
theorem driftWatch_atSample (hs : s.mc.sampleTimer.isSome = true) (hi : s.mc.inited = true) (hv : s.ps.validated = true)
    (hf : s.rm.shift = none) (hr : s.cp.resync = false) (hq : r ≠ .split) : ∃ t, exec (.inputSample l) s = .next t
      ∧ (t.mc.accepted ≠ s.mc.accepted →
        (t.input r = (if (s.res r).cmd then Pos.engaged else Pos.disengaged) →
          (t.res r).driftArmed = true ∧ (t.apart r → (t.res r).driftTimer = some s.par.confirmTime)
            ∧ (¬t.apart r → (t.res r).driftTimer = none))
        ∧ (¬t.input r = (if (s.res r).cmd then Pos.engaged else Pos.disengaged) → t.apart r →
          (t.res r).driftArmed = (s.res r).driftArmed
            ∧ (t.res r).driftTimer = if (s.res r).driftTimer = none ∧ (s.res r).driftArmed = true then some s.par.confirmTime
              else (s.res r).driftTimer)) := by
  refine ⟨_, inputSample_later hs hi, ?_⟩
  split
  · rename_i h
    exact fun k => absurd h k
  intro _
  have idle : inputChange (debounced l s) = pathBothTest (allRes.foldl (fun s r => followConfirm r s) (debounced l s)) :=
    inputChange_idle hv hf
  rw [idle]
  have orders := followConfirms_orders (debounced l s)
  have kept := followConfirms_kept (debounced l s)
  have shift := followConfirms_shift allRes (debounced l s) hf
  have res := followConfirms_takeOff hq allRes (by cases r <;> simp [allRes]) (by decide) (debounced l s) hf hv
  generalize allRes.foldl (fun s r => followConfirm r s) (debounced l s) = v at *
  have ends := pathBothTest_ends v
  have same : (v.setRm { v.rm with pathBoth := v.pathBothCondition }).res r = v.res r := setRm_res v r ⟨rfl, rfl, rfl, rfl⟩
  have resync : (pathBothTest v).cp.resync = false := by
    rw [ends.resync, State.setRm_cp, orders.cp]
    exact hr
  have valid : v.ps.validated = true := by rw [kept.ps]; exact hv
  obtain ⟨on, off⟩ := endEvent_watch (sampleStarted l s) (sampleStarted l s).dt.slots hq ends resync shift valid
  have lasts := (ends.lasts).trans (finish_lasts (sampleStarted l s) (pathBothTest v))
  have input : (finish (sampleStarted l s) (pathBothTest v)).input r = (debounced l s).input r :=
    (input_of_mc r lasts.deb lasts.inited).trans (kept.input r)
  have par : v.par = s.par := kept.par
  rw [same, State.setRm_par, par] at on
  have cmd : (debounced l s).res r = s.res r := rfl
  rw [cmd] at res
  rw [input]
  constructor
  · intro back
    rw [if_pos back] at res
    rw [res] at on
    by_cases k : (finish (sampleStarted l s) (pathBothTest v)).apart r
    · obtain ⟨armed, timer⟩ := on k
      exact ⟨armed, fun _ => timer, fun h => absurd k h⟩
    · obtain ⟨timer, armed⟩ := off k
      exact ⟨armed, fun h => absurd h k, fun _ => timer⟩
  · intro away k
    rw [if_neg away] at res
    rw [res] at on
    exact on k

/-! ## The timer's expiry -/

/-- R45: the watch of a resource disarmed and its timer stopped. -/
def disarmed (r : Res) (s : State) : State := s.setRes r { s.res r with driftTimer := none, driftArmed := false }

theorem disarmed_core (r : Res) (s : State) : (disarmed r s).rm.core = s.rm.core := setRes_core s r rfl

theorem disarmed_res (r : Res) (s : State) (q : Res) : (disarmed r s).res q =
    if q = r then { s.res r with driftTimer := none, driftArmed := false } else s.res q := setRes_res ..

theorem driftExpires_eq (h : (s.res r).driftTimer.isSome = true) : driftExpires r s = finish s
    (if (s.res r).driftArmed then driftReports r (disarmed r s)
      else disarmed r s) := by
  unfold driftExpires
  rw [if_neg (by simpa [Option.isSome_iff_ne_none] using h)]
  rfl

/-- A part at rest in which a watch is disarmed while its condition holds is at rest. -/
theorem atRest_disarmed (h : AtRest s) (hc : s.driftCondition r = true) :
    AtRest (disarmed r s) := by
  obtain ⟨hp, hs, hd, hr⟩ := h
  have core := disarmed_core r s
  have shift := core_shift core
  have split : (disarmed r s).rm.split.conf = s.rm.split.conf := core_conf core .split
  have ptor : (disarmed r s).rm.ptor.conf = s.rm.ptor.conf := core_conf core .ptor
  have mode : (disarmed r s).modeOf = s.modeOf := by
    simp only [State.modeOf, RM.shiftOf, shift, split, ptor]; rfl
  have stationary : (disarmed r s).stationary = s.stationary := by
    simp only [State.stationary, RM.shiftOf, shift, split]; rfl
  have rolling : (disarmed r s).rolling = s.rolling := by
    simp only [State.rolling, RM.shiftOf, shift, ptor, split]; rfl
  refine ⟨fun hx => ?_, fun hx => ?_, fun hx q hq => ?_, fun hx => ?_⟩
  · rw [mode, stationary, rolling]
    exact hp hx
  · have split : (disarmed r s).splitCondition = s.splitCondition := by
      simp only [State.splitCondition, RM.shiftOf, shift, core_stuck core]; rfl
    rw [split]
    exact hs hx
  · rw [driftCondition_core core, disarmed_res]
    by_cases k : q = r
    · subst k
      rw [if_pos hc]
      simp
    · rw [if_neg k]
      exact hd hx q hq
  · rw [shift]; exact hr hx

/-- R45: a disarmed watch's condition that stands leaves an event at rest with nothing to follow. -/
theorem endEvent_disarmed {f : FC} {c : CP} (h : AtRest s) (hc : s.driftCondition r = true) (hf : f.lockdown = s.fc.lockdown)
    (hr : c.resync = s.cp.resync) : finish s (((disarmed r s).setFc f).setCp c) =
      ((disarmed r s).setFc f).setCp c := by
  have rest : AtRest (((disarmed r s).setFc f).setCp c) := by
    obtain ⟨hp, hs, hd, hx⟩ := atRest_disarmed h hc
    refine ⟨fun k => ?_, hs, hd, fun k => hx (hr.symm.trans k)⟩
    have mode := modeOf_congr (s := disarmed r s)
      (u := ((disarmed r s).setFc f).setCp c) hf rfl rfl
    rw [mode]
    exact hp k
  have ptoa : ((((disarmed r s).setFc f).setCp c).res .ptoa).conf =
      (s.res .ptoa).conf := core_conf (disarmed_core r s) .ptoa
  unfold finish
  rw [endEvent_atRest _ rest ptoa]
  exact markChanged_self _

/-- R22, R45: the holders of a take-off whose path is lost are FORFEIT, whatever else the report does. -/
theorem driftReports_holder (hr : r ≠ .split) (hc : (s.res r).cmd = true) {i : Nat} {x : Rec}
    (hx : (s.dt.slot i).record = some x) (hh : x.holds r = true) :
    ((driftReports r s).dt.slot i).record = some (x.forfeited .pathLost) := by
  have forfeited := forfeitRecords_holder (s := s) .pathLost hx hh
  obtain ⟨y, hy, -, -, ey⟩ := (holdersFewer_orders _ r (s.dt.holdersOf r)).records.forward forfeited
  obtain rfl := ey rfl
  have report : driftReports r s = standardFault .ptoLost (some r) (forfeitHolders r .pathLost s) := by
    cases r
    · exact absurd rfl hr
    all_goals simp [driftReports, hc]
  rw [report, standardFault_dt]
  exact hy

theorem driftReports_takeOff (hr : r ≠ .split) (s : State) : ∃ u, Orders s u ∧ driftReports r s = standardFault .ptoLost (some r) u
    ∧ ((s.res r).cmd = false → u = s) := by
  have report : driftReports r s =
      standardFault .ptoLost (some r) (if (s.res r).cmd then forfeitHolders r .pathLost s else s) := by
    cases r
    · exact absurd rfl hr
    all_goals rfl
  refine ⟨_, ?_, report, fun h => by rw [h]; rfl⟩
  split
  · exact forfeitHolders_orders s r _
  · exact .refl s

/-- SPLIT keeps its command through the end of an event (R54). -/
theorem splitCmd_lasts {u : State} {s0 : State} (hu : u.cp.resync = false) : (finish s0 u).rm.split.cmd = u.rm.split.cmd := by
  obtain k | k : EndsOpen u (finish s0 u) ∨ EndsLocked u (finish s0 u) := endEvent_ends s0 _ hu
  · exact core_cmd k.core .split
  · exact k.cmd .split

end

/-- Settles O26. -/
theorem driftExpiryReports : Obligations.DriftExpiryReports := by
  unfold Obligations.DriftExpiryReports
  refine ⟨fun l r s hs hi hv hf _ hr hq => driftWatch_atSample hs hi hv hf hr hq, fun r s => ⟨fun h => ?_, fun h hs ha hc => ?_,
    fun hs ha hr => ?_⟩⟩
  · have run : driftExpires r s = s := by simp [driftExpires, h]
    exact congrArg Host.Outcome.next run
  · have same : ({ s.res r with driftTimer := none, driftArmed := false } : ResRec) = { s.res r with driftTimer := none } := by
      rw [← ha]
    have run : driftExpires r s = s.setRes r { s.res r with driftTimer := none } := by
      rw [driftExpires_eq hs, ha, ← same]
      exact endEvent_disarmed (f := s.fc) (c := s.cp) h hc rfl rfl
    exact congrArg Host.Outcome.next run
  · have run : exec (.driftExpiry r) s = .next (finish s (driftReports r (disarmed r s))) := by
      have expires := driftExpires_eq hs
      rw [if_pos ha] at expires
      exact congrArg Host.Outcome.next expires
    refine ⟨_, run, fun hq hn => ?_, fun hq hc i x hx hh => ?_, fun hq hc hrest hd => ?_, ?_, ?_⟩
    · obtain ⟨u, orders, e, -⟩ := driftReports_takeOff hq (disarmed r s)
      obtain ⟨k, flag⟩ := standardFault_captures (s := u) .ptoLost (some r) (by rw [orders.fc]; exact hn)
      rw [e]
      exact ⟨_, (standard_lasts (s0 := s) (by rw [standardFault_resync, orders.cp]; exact hr) k flag).1, rfl, rfl⟩
    · obtain ⟨u, orders, e, -⟩ := driftReports_takeOff hq (disarmed r s)
      have forfeited := driftReports_holder (s := disarmed r s) hq
        (by rw [disarmed_res, if_pos rfl]; exact hc) hx hh
      have resync : (driftReports r (disarmed r s)).cp.resync = false := by
        rw [e, standardFault_resync, orders.cp]; exact hr
      obtain ⟨x', why, hx', st, -, -, same, locked⟩ := forfeit_lasts (s0 := s) resync forfeited
      exact ⟨x', why, hx', st, same, fun a b => locked (by rw [e, standardFault_lockdown, orders.fc]; exact a) b⟩
    · obtain ⟨u, -, e, same⟩ := driftReports_takeOff hq (disarmed r s)
      obtain rfl := same (by rw [disarmed_res, if_pos rfl]; exact hc)
      have critical := standardFault_critical (disarmed r s) .ptoLost (some r)
      have lockdown := standardFault_lockdown (disarmed r s) .ptoLost (some r)
      have resync := standardFault_resync (disarmed r s) .ptoLost (some r)
      obtain ⟨f, c, ef⟩ := standardFault_eq (disarmed r s) .ptoLost (some r)
      rw [ef] at critical lockdown resync
      rw [e, ef, endEvent_disarmed (f := f) (c := c) hrest hd lockdown resync]
      exact ⟨rfl, rfl, ⟨rfl, rfl, rfl, rfl, rfl, rfl, rfl, rfl, rfl, rfl, rfl⟩, critical, lockdown⟩
    · rintro rfl
      have ends := criticalFault_ends .splitLost (some .split) (disarmed .split s)
      refine (splitCmd_lasts (ends.resync.trans hr)).trans ?_
      obtain q | k := ends
      · exact congrArg (fun m => m.split.cmd) q.rm
      · exact k.cmd .split
    · rintro rfl hl
      have ends := criticalFault_ends .splitLost (some .split) (disarmed .split s)
      have resync := ends.resync.trans hr
      refine ⟨fun hn => ?_, fun hf => ?_⟩
      · have filled := criticalFault_fills (s := disarmed .split s)
          .splitLost (some .split) hn hl
        exact ⟨_, critical_lasts resync (congrArg FC.critical filled :), rfl, rfl⟩
      · have locked := criticalFault_locks (s := disarmed .split s)
          .splitLost (some .split) hf hl
        exact lockdown_lasts resync locked.lockdown locked.mode

end Sys2Proof.Machine
end

section
/-! SUPPORT for O32. The pumping watches while stationary pumping goes on (R71 to R73), and the path-both test (R46). -/
namespace Sys2Proof.Machine

section
variable {s u v w : State}

theorem Kept.accepted (k : Kept s u) : u.mc.accepted = s.mc.accepted := by simp [MC.accepted, k.deb]

theorem Kept.splitPos (k : Kept s u) : u.mc.splitPos = s.mc.splitPos := k.input .split

/-! ## Stationary pumping that goes on -/

theorem graceAtMode_eq (m : Mode) (s : State) : ∃ g, graceAtMode m s = s.setMc { s.mc with graceTimer := g } := by
  unfold graceAtMode
  repeat' split
  · exact ⟨s.mc.graceTimer, rfl⟩
  · exact ⟨_, rfl⟩
  · exact ⟨s.mc.graceTimer, rfl⟩
  · exact ⟨_, rfl⟩

/-- Stationary pumping goes on from `s` to `t`: the mode is PUMP, no fault is captured and the motion episode stands. -/
structure PumpsOn (s t : State) : Prop where
  kept : Kept s t
  rm : t.rm = s.rm
  fc : t.fc = s.fc
  resync : t.cp.resync = s.cp.resync
  sp : t.mc.sp = true
  motionEp : t.mc.motionEp = s.mc.motionEp
  mode : t.mc.mode = .pump
  derived : t.mc.derived = true

/-- R71, R67: where the mode is PUMP and stationary pumping goes on, the park watch alone is evaluated. -/
theorem deriveAndWatch_goesOn (hm : s.modeOf = .pump) (hp : s.mc.sp = true) : ∃ y g, PumpsOn s y ∧ y.mc.parkEp = s.mc.parkEp
    ∧ deriveAndWatch s = (parkWatch y).setMc { (parkWatch y).mc with graceTimer := g } := by
  have stationary : (deriveMode s).stationary = true := by simp [State.stationary, hm]
  have goesOn : evaluatePumping (deriveMode s) = parkWatch (evaluateScopes (deriveMode s)) := by
    simp [evaluatePumping, hp]
  have park : (evaluateScopes (deriveMode s)).mc.parkEp = ((deriveMode s).mc.parkEp && (deriveMode s).stationary) := rfl
  have motion : (evaluateScopes (deriveMode s)).mc.motionEp = ((deriveMode s).mc.motionEp && (deriveMode s).stationary) := rfl
  rw [stationary, Bool.and_true] at park motion
  obtain ⟨g, e⟩ := graceAtMode_eq s.mc.mode (parkWatch (evaluateScopes (deriveMode s)))
  refine ⟨evaluateScopes (deriveMode s), g, ⟨(deriveMode_kept s).trans (evaluateScopes_kept _), by simp, by simp, by simp, stationary,
    motion.trans (by simp), by simp [hm], by simp⟩, park.trans (by simp), ?_⟩
  unfold deriveAndWatch
  rw [goesOn, e]

/-- R73: with PARK set a part that goes on pumping reports nothing. -/
theorem deriveAndWatch_parked (hm : s.modeOf = .pump) (hp : s.mc.sp = true) (hk : s.mc.accepted.park = true) :
    PumpsOn s (deriveAndWatch s) := by
  obtain ⟨y, g, on, -, e⟩ := deriveAndWatch_goesOn hm hp
  have park : y.mc.accepted.park = true := by rw [on.kept.accepted, hk]
  have watch : parkWatch y = y.setMc { y.mc with parkEp := false } := by simp [parkWatch, park]
  have kept := deriveAndWatch_kept s
  rw [e, watch] at kept ⊢
  obtain ⟨-, rm, fc, resync, sp, motionEp, mode, derived⟩ := on
  exact ⟨kept, rm, fc, resync, sp, motionEp, mode, derived⟩

/-- R73: with PARK clear and its episode not open, a part that goes on pumping reports PARK_RELEASED. -/
theorem deriveAndWatch_released (hm : s.modeOf = .pump) (hp : s.mc.sp = true) (hk : s.mc.accepted.park = false)
    (he : s.mc.parkEp = false) (hl : s.fc.lockdown = false) :
    (s.fc.critical = none → ∃ c, (deriveAndWatch s).fc.critical = some c ∧ c.cause = .parkReleased ∧ c.res = none)
    ∧ (s.fc.critical.isSome = true → (deriveAndWatch s).fc.lockdown = true ∧ (deriveAndWatch s).mc.mode = .lockdown) := by
  obtain ⟨y, g, on, ep, e⟩ := deriveAndWatch_goesOn hm hp
  have park : y.mc.accepted.park = false := by rw [on.kept.accepted, hk]
  have watch : parkWatch y = criticalFault .parkReleased none (y.setMc { y.mc with parkEp := true }) := by
    simp [parkWatch, on.sp, park, ep, he]
  rw [e, watch]
  refine ⟨fun hn => ?_, fun hf => ?_⟩
  · have filled := criticalFault_fills (s := y.setMc { y.mc with parkEp := true }) .parkReleased none
      (by rw [State.setMc_fc, on.fc, hn]) (by rw [State.setMc_fc, on.fc, hl])
    exact ⟨_, congrArg FC.critical filled, rfl, rfl⟩
  · have locked := criticalFault_locks (s := y.setMc { y.mc with parkEp := true }) .parkReleased none
      (by rw [State.setMc_fc, on.fc, hf]) (by rw [State.setMc_fc, on.fc, hl])
    exact ⟨locked.lockdown, locked.mode⟩

/-! ## The end of an event beside it -/

/-- Where no RESYNC waits, the Resource Manager's work is followed by the suspensions and the derivation of the mode. -/
theorem followUp_idle (s0 : State) (b : List Slot) (h : u.cp.resync = false) : ∃ v, Leads u v ∧ v.mc = u.mc
    ∧ followUp s0 b u = if u.mc.derived then deriveAndWatch v else v := by
  have settle : settleResync b u = u := by simp [settleResync, h]
  unfold followUp
  rw [settle]
  refine ⟨_, suspensions_lead (u := u) (p := (u.res .ptoa).conf = (s0.res .ptoa).conf), ?_, ?_⟩
  · split <;> simp
  · dsimp only
    split <;> simp

theorem Leads.modeOf (led : Leads u v) (mc : v.mc = u.mc) : v.modeOf = u.modeOf :=
  modeOf_congr (by rw [led.fc]) led.rm (by rw [mc])

/-- R71 to R73: a part that pumps with PARK set goes on so through what follows the Resource Manager's work. -/
theorem followUp_parked (s0 : State) (b : List Slot) (hr : u.cp.resync = false) (hd : u.mc.derived = true) (hm : u.modeOf = .pump)
    (hp : u.mc.sp = true) (hk : u.mc.accepted.park = true) : PumpsOn u (followUp s0 b u) := by
  obtain ⟨v, led, mc, e⟩ := followUp_idle s0 b hr
  rw [if_pos hd] at e
  obtain ⟨kept, rm, fc, resync, sp, motionEp, mode, derived⟩ := deriveAndWatch_parked (s := v)
    ((led.modeOf mc).trans hm) (by rw [mc, hp]) (by rw [mc, hk])
  rw [e]
  exact ⟨led.kept.trans kept, rm.trans led.rm, fc.trans led.fc, resync.trans led.resync, sp, motionEp.trans (by rw [mc]), mode, derived⟩

/-- Such an event ends with the captures and the motion episode as they were. -/
theorem endEvent_parked (s0 : State) (b : List Slot) (hr : u.cp.resync = false) (hd : u.mc.derived = true) (hm : u.modeOf = .pump)
    (hp : u.mc.sp = true) (hk : u.mc.accepted.park = true) :
    (endEvent s0 b u).fc = u.fc ∧ (endEvent s0 b u).mc.motionEp = u.mc.motionEp := by
  have on := followUp_parked s0 b hr hd hm hp hk
  obtain ⟨x, y, pmc, -, -, pfc, -⟩ := positionWatches_rest (followUp s0 b u)
  have settle : settleResync b (positionWatches (followUp s0 b u)) = positionWatches (followUp s0 b u) := by
    obtain ⟨m, a, c, e, -⟩ := positionWatches_eq (followUp s0 b u)
    simp [settleResync, e, on.resync, hr]
  unfold endEvent
  rw [settle, markChanged_fc, markChanged_mc, pfc, pmc]
  exact ⟨on.fc, on.motionEp⟩

/-- R66: SPLIT confirmed at PUMP, neither a SPLIT shift nor an ENGAGE in flight. -/
theorem modeOf_pump (hl : s.fc.lockdown = false) (hp : s.mc.splitPos = .engaged) (hc : s.rm.split.conf = .engaged)
    (hs : ∀ sh, s.rm.shift = some sh → sh.op = .disengage ∧ sh.res ≠ .split) : s.modeOf = .pump := by
  cases h : s.rm.shift with
  | none => simp [State.modeOf, hl, hp, hc, RM.shiftOf, h]
  | some sh =>
    obtain ⟨op, res⟩ := hs sh h
    simp [State.modeOf, hl, hp, hc, RM.shiftOf, h, op, res]

/-! ## The park episode (R73) -/

theorem enterLockdown_pumping (s : State) (c : Cause) (w : Option Res) (h : s.fc.lockdown = false)
    (hc : s.fc.critical.isSome = true) : (enterLockdown c w s).mc.sp = false ∧ (enterLockdown c w s).mc.parkEp = false := by
  have mode := (enterLockdown_locks c w h hc).mode
  have same : enterLockdown c w s =
      raiseAtt .lockdown (evaluateScopes (deriveMode (driveValves (resourcesLockdown (tableLocked c w s))))) := rfl
  rw [same] at mode ⊢
  generalize deriveMode (driveValves (resourcesLockdown (tableLocked c w s))) = d at *
  have mode : d.mc.mode = .lockdown := mode
  have stationary : d.stationary = false := by simp [State.stationary, mode]
  have park : (raiseAtt .lockdown (evaluateScopes d)).mc.parkEp = (d.mc.parkEp && d.stationary) := rfl
  exact ⟨stationary, park.trans (by simp [stationary])⟩

/-- R73: after the park watch its episode is open exactly while stationary pumping holds with PARK clear. -/
theorem parkWatch_episode (s : State) : (parkWatch s).mc.parkEp = true ↔
    (parkWatch s).mc.sp = true ∧ (parkWatch s).mc.accepted.park = false := by
  have kept := parkWatch_kept s
  rw [kept.accepted]
  unfold parkWatch
  split
  · rename_i h
    have park : s.mc.accepted.park = false := by simp_all
    have sp : s.mc.sp = true := by simp_all
    split
    · rename_i ep
      simp [ep, sp, park]
    · unfold criticalFault
      split
      · simp [sp, park]
      · rename_i hl
        split
        · rename_i hc
          obtain ⟨sp', ep'⟩ := enterLockdown_pumping (s.setMc { s.mc with parkEp := true }) .parkReleased none (by simpa using hl) hc
          rw [sp', ep']
          simp
        · rw [fillCritical_mc]
          simp [sp, park]
  · rename_i h
    simp only [Bool.and_eq_true, Bool.not_eq_true', not_and] at h
    simpa using h

theorem deriveAndWatch_episode (s : State) : (deriveAndWatch s).mc.parkEp = true ↔
    (deriveAndWatch s).mc.sp = true ∧ (deriveAndWatch s).mc.accepted.park = false := by
  have watched (y : State) : (graceAtMode s.mc.mode (parkWatch y)).mc.parkEp = true ↔
      (graceAtMode s.mc.mode (parkWatch y)).mc.sp = true ∧ (graceAtMode s.mc.mode (parkWatch y)).mc.accepted.park = false := by
    obtain ⟨g, e⟩ := graceAtMode_eq s.mc.mode (parkWatch y)
    rw [e]
    exact parkWatch_episode y
  exact watched _

/-- R73: at the end of an event, with a RESYNC or without. -/
theorem endEvent_episode (s0 : State) (b : List Slot) (hd : u.mc.derived = true) : (endEvent s0 b u).mc.parkEp = true ↔
    (endEvent s0 b u).mc.sp = true ∧ (endEvent s0 b u).mc.accepted.park = false := by
  obtain ⟨-, x, y, mc⟩ := endEvent_lasts s0 b u
  obtain ⟨v, -, -, e⟩ := followUp_parts s0 b u
  rw [if_pos hd] at e
  rw [mc, e]
  exact deriveAndWatch_episode v

/-! ## The path-both test (R46) -/

theorem pathBoth_iff (hi : s.mc.inited = true) : s.pathBothCondition = true ↔
    s.mc.accepted.shpump = true ∧ s.mc.accepted.shroad = false ∧ s.mc.accepted.ptorOn = true := by
  simp only [State.pathBothCondition, MC.splitPos, hi, if_true, splitOf, Bool.and_eq_true, beq_iff_eq]
  cases s.mc.accepted.shpump <;> cases s.mc.accepted.shroad <;> simp

/-- R46: an episode that begins is the critical fault PATH_BOTH, one that stands or ends reports nothing. -/
theorem pathBothTest_begins (hc : s.pathBothCondition = true) (hb : s.rm.pathBoth = false) (hl : s.fc.lockdown = false) :
    (s.fc.critical = none → ∃ c, (pathBothTest s).fc.critical = some c ∧ c.cause = .pathBoth ∧ c.res = none)
    ∧ (s.fc.critical.isSome = true → (pathBothTest s).fc.lockdown = true ∧ (pathBothTest s).mc.mode = .lockdown) := by
  have test : pathBothTest s = criticalFault .pathBoth none (s.setRm { s.rm with pathBoth := true }) := by
    simp [pathBothTest, hc, hb]
  rw [test]
  refine ⟨fun hn => ?_, fun hf => ?_⟩
  · have filled := criticalFault_fills (s := s.setRm { s.rm with pathBoth := true }) .pathBoth none hn hl
    exact ⟨_, congrArg FC.critical filled, rfl, rfl⟩
  · have locked := criticalFault_locks (s := s.setRm { s.rm with pathBoth := true }) .pathBoth none hf hl
    exact ⟨locked.lockdown, locked.mode⟩

theorem pathBothTest_quiet (h : s.pathBothCondition = true → s.rm.pathBoth = true) :
    pathBothTest s = s.setRm { s.rm with pathBoth := s.pathBothCondition } := by
  unfold pathBothTest
  split
  · rename_i hc
    rw [if_pos (h hc), hc, ← h hc]
    rfl
  · rename_i hc
    rw [Bool.eq_false_iff.2 hc]

end
end Sys2Proof.Machine
end

section
/-! O32. The three critical conditions that a sample or a publication finds (R46, R72, R73). -/
namespace Sys2Proof.Machine

section
variable {s d u w : State} {l : Inputs}

/-! ## The Resource Manager's part of a sample -/

theorem followBeforeMarking_orders (s : State) : Orders s (followBeforeMarking s) := by
  have outputs : Orders s (outputsFollow s.mc.accepted s) := { Orders.refl s with orphan := fun q h => by cases q <;> exact h }
  have confirms (t : State) : Orders t (confirmsFollow t) := { Orders.refl t with orphan := fun q h => by cases q <;> exact h }
  unfold followBeforeMarking
  split
  · exact confirms s
  · exact outputs.trans (confirms _)

theorem followBeforeMarking_kept (s : State) : Kept s (followBeforeMarking s) := by
  unfold followBeforeMarking
  split
  · exact setRm_kept s _
  · exact (setRm_kept s _).trans (setRm_kept _ _)

theorem stageChange_kept (s : State) : Kept s (stageChange s) := by
  unfold stageChange
  repeat' split
  · exact tryActuate_kept s
  · exact trySettle_kept s
  · unfold tryBounce
    repeat' split
    · exact setRm_kept s _
    · exact .refl s
    · exact .refl s
  · exact .refl s

/-! ## What a sample's path-both test leaves at the event's end -/

theorem finish_pathBoth (s0 : State) (w : State) : (finish s0 (pathBothTest w)).rm.pathBoth = w.pathBothCondition
    ∧ (finish s0 (pathBothTest w)).mc.accepted = w.mc.accepted := by
  have lasts := ((pathBothTest_ends w).lasts).trans (finish_lasts s0 _)
  exact ⟨lasts.pathBoth, by simp [MC.accepted, lasts.deb]⟩

/-- R46, R165, R166: the capture of an episode that begins, or lockdown, lasts to the end of the event. -/
theorem finish_pathBoth_begins (s0 : State) (hc : w.pathBothCondition = true) (hb : w.rm.pathBoth = false)
    (hl : w.fc.lockdown = false) :
    (w.fc.critical = none → ∃ c, (finish s0 (pathBothTest w)).fc.critical = some c ∧ c.cause = .pathBoth ∧ c.res = none)
    ∧ (w.fc.critical.isSome = true →
        (finish s0 (pathBothTest w)).fc.lockdown = true ∧ (finish s0 (pathBothTest w)).mc.mode = .lockdown) := by
  obtain ⟨fills, locks⟩ := pathBothTest_begins hc hb hl
  have lasts := finish_lasts s0 (pathBothTest w)
  refine ⟨fun hn => ?_, fun hf => ?_⟩
  · obtain ⟨c, hc, cause, res⟩ := fills hn
    exact ⟨c, lasts.critical c hc, cause, res⟩
  · obtain ⟨lock, mode⟩ := locks hf
    exact ⟨lasts.lockdown lock, lasts.locked lock mode⟩

/-- R46: where no episode begins and the pumping watches have nothing new to report, the captures stand. -/
theorem finish_pathBoth_calm (s0 : State) (hr : w.cp.resync = false) (hb : w.pathBothCondition = true → w.rm.pathBoth = true)
    (hc : w.Calm) : (finish s0 (pathBothTest w)).fc = w.fc := by
  rw [pathBothTest_quiet hb]
  have calm : (w.setRm { w.rm with pathBoth := w.pathBothCondition }).Calm := fun hd hs => by
    have stationary : (deriveMode (w.setRm { w.rm with pathBoth := w.pathBothCondition })).stationary =
        (deriveMode w).stationary := by
      rw [State.stationary, State.stationary, deriveMode_mode, deriveMode_mode, deriveMode_rm, deriveMode_rm]
      rfl
    exact hc hd (stationary.symm.trans hs)
  obtain ⟨-, fc⟩ := endEvent_calm s0 s0.dt.slots (u := w.setRm { w.rm with pathBoth := w.pathBothCondition }) hr calm
  exact fc

/-! ## SPLIT at a sample -/

theorem followConfirms_conf (l : List Res) {r : Res} (hm : r ∈ l) (hn : l.Nodup) : ∀ s : State, s.rm.shift = none →
    ((l.foldl (fun s r => followConfirm r s) s).res r).conf = s.input r := by
  induction l with
  | nil => cases hm
  | cons x l ih =>
    intro s hs
    obtain ⟨hx, hn⟩ := List.nodup_cons.1 hn
    rw [List.foldl_cons]
    by_cases h : r = x
    · subst h
      rw [followConfirms_other l hx _ (followConfirm_shift hs), followConfirm_res hs, if_pos rfl]
      have core := congrArg ResRec.conf (lapsed_core (takeConfirm r s) r)
      have conf : ((takeConfirm r s).lapsed r).conf = ((takeConfirm r s).res r).conf := core
      rw [conf, takeConfirm_res, if_pos rfl]
    · rw [ih (List.mem_of_ne_of_mem h hm) hn _ (followConfirm_shift hs), (followConfirm_kept x s).input]

/-- R60: an input change is the positions, the shift in flight and then the path-both test; beside an empty slot SPLIT is confirmed
at its input. -/
theorem inputChange_parts (d : State) : ∃ w, inputChange d = pathBothTest w ∧ Orders d w ∧ Kept d w
    ∧ (d.ps.validated = true → d.rm.shift = none → (w.res .split).conf = d.mc.splitPos ∧ w.rm.shift = none) := by
  unfold inputChange
  split
  · refine ⟨_, rfl, (followConfirms_orders d).trans (stageChange_orders _), (followConfirms_kept d).trans (stageChange_kept _),
      fun _ hs => ?_⟩
    have shift := followConfirms_shift allRes d hs
    rw [stageChange_idle shift]
    exact ⟨followConfirms_conf allRes (by simp [allRes]) (by decide) d hs, shift⟩
  · rename_i h
    exact ⟨_, rfl, followBeforeMarking_orders d, followBeforeMarking_kept d, fun hv => absurd hv h⟩

/-- R73, R165, R166: PARK that goes clear during stationary pumping, at the end of the event that finds it. -/
theorem endEvent_released (s0 : State) (b : List Slot) (hr : u.cp.resync = false) (hd : u.mc.derived = true) (hm : u.modeOf = .pump)
    (hp : u.mc.sp = true) (hk : u.mc.accepted.park = false) (he : u.mc.parkEp = false) (hl : u.fc.lockdown = false) :
    (u.fc.critical = none → ∃ c, (endEvent s0 b u).fc.critical = some c ∧ c.cause = .parkReleased ∧ c.res = none)
    ∧ (u.fc.critical.isSome = true → (endEvent s0 b u).fc.lockdown = true ∧ (endEvent s0 b u).mc.mode = .lockdown) := by
  obtain ⟨v, w, hv, hw, -, e⟩ := endEvent_parts s0 b hr
  have led : Leads u v := hv ▸ suspensions_lead
  have mc : v.mc = u.mc := by rw [hv]; split <;> simp
  rw [if_pos hd] at hw
  have released := deriveAndWatch_released (s := v) ((led.modeOf mc).trans hm) (by rw [mc, hp]) (by rw [mc, hk]) (by rw [mc, he])
    (by rw [led.fc, hl])
  have closed := end_closes b w
  rw [e, closed.fc, closed.mode, hw]
  rwa [led.fc] at released

end
end Sys2Proof.Machine
end

section
/-! O32, continued: the publication (R72, R98). -/
namespace Sys2Proof.Machine

section
variable {s u : State} {r : Res}

/-! ## What a publication does to a part that pumps -/

/-- A pumping part's drive train: SPLIT engaged, and no shift or entry but the take-offs' DISENGAGEs. -/
structure PumpLine (s : State) : Prop where
  split : s.rm.split.conf = .engaged
  shift : ∀ sh, s.rm.shift = some sh → sh.op = .disengage ∧ sh.res ≠ .split
  queue : ∀ e ∈ s.rm.queue, e.op = .disengage ∧ e.res ≠ .split

theorem PumpLine.of_job {x : Res × ShiftOp} (h : ∀ sh, s.rm.shift = some sh → sh.op = .disengage ∧ sh.res ≠ .split)
    (k : u.rm.shift.map Shift.job = s.rm.shift.map Shift.job) (e : u.rm.shift.map Shift.job = some x) :
    x.2 = .disengage ∧ x.1 ≠ .split := by
  rw [k] at e
  obtain ⟨sh, hs, rfl⟩ := Option.map_eq_some_iff.1 e
  exact h sh hs

theorem PumpLine.line (h : PumpLine s) (k : SameLine s u) : PumpLine u where
  split := (k.conf .split).trans h.split
  shift := fun sh hs => PumpLine.of_job (x := sh.job) h.shift k.job (by rw [hs]; rfl)
  queue := by rw [k.queue]; exact h.queue

/-- Updates that leave the positions, the slot and the queue. -/
theorem PumpLine.of_eq (h : PumpLine s) (hc : u.rm.split.conf = s.rm.split.conf) (hs : u.rm.shift = s.rm.shift)
    (hq : u.rm.queue = s.rm.queue) : PumpLine u := ⟨by rw [hc, h.split], by rw [hs]; exact h.shift, by rw [hq]; exact h.queue⟩

theorem PumpLine.setRes (h : PumpLine s) (r : Res) {x : ResRec} (hx : x.conf = (s.res r).conf) : PumpLine (s.setRes r x) := by
  refine h.of_eq ?_ (setRes_shift ..) (setRes_queue ..)
  cases r
  · exact hx
  all_goals rfl

theorem PumpLine.startHead (h : PumpLine s) : PumpLine (startHead s) := by
  obtain e | ⟨e, rest, -, hq, -, -, he⟩ := startHead_cases s
  · rw [e]; exact h
  · rw [he]
    have mem : ∀ x ∈ e :: rest, x.op = .disengage ∧ x.res ≠ .split := by rw [← hq]; exact h.queue
    refine PumpLine.line (s := slotTaken e rest s) ⟨(slotTaken_conf e rest s .split).trans h.split, fun sh hs => ?_, ?_⟩ (tryActuate_line _)
    · rw [slotTaken_shift] at hs
      obtain rfl := Option.some.inj hs
      exact mem e List.mem_cons_self
    · rw [slotTaken_queue]
      exact fun x hx => mem x (List.mem_cons_of_mem _ hx)

theorem PumpLine.append (h : PumpLine s) (hr : r ≠ .split) : PumpLine (appendEntry r .disengage s) := by
  unfold appendEntry
  split
  · exact h
  · refine PumpLine.startHead ⟨h.split, h.shift, fun e he => ?_⟩
    obtain he | he := List.mem_append.1 he
    · exact h.queue e he
    · obtain rfl := List.mem_singleton.1 he
      exact ⟨rfl, hr⟩

theorem PumpLine.stoppedWanted (h : PumpLine s) (hr : r ≠ .split) : PumpLine (stoppedWanted r s) := by
  have withdrawn : PumpLine (withdraw r s) :=
    ⟨h.split, h.shift, fun e he => h.queue e (List.mem_filter.1 he).1⟩
  unfold Machine.stoppedWanted
  repeat' split
  · exact withdrawn
  · exact h
  · rename_i sh hs _ hp
    obtain ⟨op, -⟩ := h.shift sh hs
    rw [op] at hp
    cases hp.1
  · exact h
  · exact h.append hr
  · exact h
  · exact h.append hr
  · exact h

theorem PumpLine.cutOut (h : PumpLine s) (hr : r ≠ .split) : PumpLine (cutOut r s) := by
  have cut : PumpLine (s.setRes r { s.res r with cut := true, orphan := false }) := h.setRes r rfl
  have told (t : State) (ht : PumpLine t) : PumpLine (reportCut r true t) :=
    ht.of_eq (by rw [reportCut, setReason, updateRecords_rm]) (by rw [reportCut, setReason, updateRecords_rm])
      (by rw [reportCut, setReason, updateRecords_rm])
  unfold Machine.cutOut; dsimp only
  split
  · refine told _ ?_
    repeat' split
    · exact cut.append hr
    · exact cut.stoppedWanted hr
    · exact cut
  · exact h

theorem cutsTaken_line (h : PumpLine s) : PumpLine (cutsTaken s) := by
  have window : PumpLine (s.setPcu (s.pcu.window s.par s.mc.still)) := ⟨h.split, h.shift, h.queue⟩
  exact ((window.cutOut (r := .ptoa) (by decide)).cutOut (r := .ptob) (by decide)).line (tryActuate_line _)

/-- What the Resource Manager's part of a publication leaves of a part that pumps with PARK set. -/
structure Published (s x : State) : Prop where
  fc : x.fc = s.fc
  resync : x.cp.resync = s.cp.resync
  derived : x.mc.derived = s.mc.derived
  sp : x.mc.sp = s.mc.sp
  motionEp : x.mc.motionEp = s.mc.motionEp
  accepted : x.mc.accepted = s.mc.accepted
  par : x.par = s.par
  road : x.pcu.roadSum = ((s.pcu.road.window :: s.pcu.road.ring).take 8).sum
  pump : PumpLine s → s.fc.lockdown = false → s.mc.splitPos = .engaged → x.modeOf = .pump

theorem published (s : State) : Published s (slipWatch (cutsTaken s)) := by
  have orders := cutsTaken_orders s
  have kept := cutsTaken_kept s
  obtain ⟨a, b, e, -⟩ := slipWatch_eq (cutsTaken s)
  rw [e]
  exact ⟨orders.fc, congrArg CP.resync orders.cp, orders.derived, orders.sp, orders.motionEp, orders.accepted, kept.par,
    congrArg PCU.roadSum kept.pcu, fun hp hl hs => modeOf_pump ((congrArg FC.lockdown orders.fc :).trans hl) (orders.splitPos.trans hs)
      (cutsTaken_line hp).split (cutsTaken_line hp).shift⟩

/-! ## The motion watch at a publication (R72) -/

/-- What the watches of a publication start from: a part that pumps on with PARK set. -/
structure Parked (f : State) : Prop where
  resync : f.cp.resync = false
  derived : f.mc.derived = true
  sp : f.mc.sp = true
  park : f.mc.accepted.park = true
  pump : f.modeOf = .pump

/-- The captures and the motion episode that a publication's watches leave last to the end of its event. -/
theorem Parked.finish (h : Parked u) (s0 : State) : (finish s0 (overspeedWatch u)).fc = u.fc
    ∧ (finish s0 (overspeedWatch u)).mc.motionEp = u.mc.motionEp := by
  obtain ⟨⟨e, v, g, mc⟩, rm, fc, cp, -⟩ := overspeedWatch_rest u
  obtain ⟨efc, emotion⟩ := endEvent_parked (u := overspeedWatch u) s0 s0.dt.slots (by rw [cp, h.resync]) (by rw [mc]; exact h.derived)
    ((modeOf_congr (by rw [fc]) rm (by rw [mc]; rfl)).trans h.pump) (by rw [mc]; exact h.sp) (by rw [mc]; exact h.park)
  exact ⟨efc.trans fc, emotion.trans (by rw [mc])⟩

theorem Parked.motion (h : Parked u) (b : Bool) : Parked (u.setMc { u.mc with motionEp := b }) :=
  ⟨h.resync, h.derived, h.sp, h.park, h.pump⟩

/-- R72: the three outcomes of a publication for the motion watch. -/
theorem Parked.watched (h : Parked u) (s0 : State) :
    (u.pcu.roadSum ≤ u.par.motionTolerance → (Machine.finish s0 (overspeedWatch (motionWatch u))).mc.motionEp = false
      ∧ (Machine.finish s0 (overspeedWatch (motionWatch u))).fc = u.fc)
    ∧ (u.par.motionTolerance < u.pcu.roadSum → u.mc.motionEp = true →
      (Machine.finish s0 (overspeedWatch (motionWatch u))).mc.motionEp = true
        ∧ (Machine.finish s0 (overspeedWatch (motionWatch u))).fc = u.fc)
    ∧ (u.par.motionTolerance < u.pcu.roadSum → u.mc.motionEp = false → u.fc.lockdown = false →
      (u.fc.critical = none → (Machine.finish s0 (overspeedWatch (motionWatch u))).mc.motionEp = true
        ∧ ∃ c, (Machine.finish s0 (overspeedWatch (motionWatch u))).fc.critical = some c ∧ c.cause = .wheelMotion ∧ c.res = none)
      ∧ (u.fc.critical.isSome = true → (Machine.finish s0 (overspeedWatch (motionWatch u))).fc.lockdown = true
        ∧ (Machine.finish s0 (overspeedWatch (motionWatch u))).mc.mode = .lockdown)) := by
  refine ⟨fun hs => ?_, fun hs he => ?_, fun hs he hl => ?_⟩
  · have watch : motionWatch u = u.setMc { u.mc with motionEp := false } := by
      simp [motionWatch, h.sp, Nat.not_lt.2 hs]
    obtain ⟨fc, motion⟩ := (h.motion false).finish s0
    rw [watch]
    exact ⟨motion, fc⟩
  · have watch : motionWatch u = u := by simp [motionWatch, h.sp, hs, he]
    obtain ⟨fc, motion⟩ := h.finish s0
    rw [watch]
    exact ⟨motion.trans he, fc⟩
  · have watch : motionWatch u = criticalFault .wheelMotion none (u.setMc { u.mc with motionEp := true }) := by
      simp [motionWatch, h.sp, hs, he]
    rw [watch]
    refine ⟨fun hn => ?_, fun hf => ?_⟩
    · have filled := criticalFault_fills (s := u.setMc { u.mc with motionEp := true }) .wheelMotion none hn hl
      have same : criticalFault .wheelMotion none (u.setMc { u.mc with motionEp := true }) =
          fillCritical .wheelMotion none (u.setMc { u.mc with motionEp := true }) := by simp [criticalFault, hl, hn]
      rw [same] at filled ⊢
      have rm := fillCritical_rm (u.setMc { u.mc with motionEp := true }) .wheelMotion none
      have mc := fillCritical_mc (u.setMc { u.mc with motionEp := true }) .wheelMotion none
      obtain ⟨-, resync, -⟩ := fillCritical_cp (u.setMc { u.mc with motionEp := true }) .wheelMotion none
      obtain ⟨k1, k2, k3, k4, k5⟩ := h.motion true
      generalize fillCritical .wheelMotion none (u.setMc { u.mc with motionEp := true }) = f at *
      have parked : Parked f := ⟨resync.trans k1, by rw [mc]; exact k2, by rw [mc]; exact k3, by rw [mc]; exact k4,
        (modeOf_congr (by rw [filled]) rm (by rw [mc])).trans k5⟩
      obtain ⟨fc, motion⟩ := parked.finish s0
      exact ⟨motion.trans (by rw [mc]; rfl), _, (congrArg FC.critical (fc.trans filled) :), rfl, rfl⟩
    · have locked := criticalFault_locks (s := u.setMc { u.mc with motionEp := true }) .wheelMotion none hf hl
      have lasts := (overspeedWatch_lasts (criticalFault .wheelMotion none (u.setMc { u.mc with motionEp := true }))).trans
        (finish_lasts s0 _)
      exact ⟨lasts.lockdown locked.lockdown, lasts.locked locked.lockdown locked.mode⟩

end
end Sys2Proof.Machine
end

section
namespace Sys2Proof.Machine

section
variable {s : State} {l : Inputs}

/-- R61: the split position once the inputs have their first values. -/
theorem splitPos_engaged {m : MC} (hi : m.inited = true) (h1 : m.accepted.shpump = true) (h2 : m.accepted.shroad = false) :
    m.splitPos = .engaged := by simp [MC.splitPos, hi, splitOf, h1, h2]

/-- R46, R73: a sample after the first that changes an accepted level. -/
theorem sample_watches (hs : s.mc.sampleTimer.isSome = true) (hi : s.mc.inited = true) : ∃ t, exec (.inputSample l) s = .next t
    ∧ (t.mc.accepted ≠ s.mc.accepted →
      let both : Prop := t.mc.accepted.shpump = true ∧ t.mc.accepted.shroad = false ∧ t.mc.accepted.ptorOn = true
      (t.rm.pathBoth = true ↔ both)
      ∧ (both → s.rm.pathBoth = false → s.fc.lockdown = false →
        (s.fc.critical = none → ∃ c, t.fc.critical = some c ∧ c.cause = .pathBoth ∧ c.res = none)
        ∧ (s.fc.critical.isSome = true → t.fc.lockdown = true ∧ t.mc.mode = .lockdown))
      ∧ ((both → s.rm.pathBoth = true) → s.mc.sp = true → t.mc.accepted.park = true ∨ s.mc.parkEp = true → s.cp.resync = false →
        t.fc = s.fc)
      ∧ (s.mc.derived = true → (t.mc.parkEp = true ↔ t.mc.sp = true ∧ t.mc.accepted.park = false))
      ∧ (s.mc.derived = true → s.ps.validated = true → s.mc.sp = true → s.mc.parkEp = false → s.rm.shift = none →
        s.cp.resync = false → s.fc.lockdown = false → t.mc.accepted.shpump = true → t.mc.accepted.shroad = false →
        t.mc.accepted.ptorOn = false → t.mc.accepted.park = false →
        (s.fc.critical = none → ∃ c, t.fc.critical = some c ∧ c.cause = .parkReleased ∧ c.res = none)
        ∧ (s.fc.critical.isSome = true → t.fc.lockdown = true ∧ t.mc.mode = .lockdown))) := by
  refine ⟨_, inputSample_later hs hi, ?_⟩
  split
  · rename_i h
    exact fun k => absurd h k
  intro _
  obtain ⟨w, e, orders, kept, idle⟩ := inputChange_parts (debounced l s)
  rw [e]
  obtain ⟨pathBoth, accepted⟩ := finish_pathBoth (sampleStarted l s) w
  have fc : w.fc = s.fc := orders.fc
  have cp : w.cp = s.cp := orders.cp
  have before : w.rm.pathBoth = s.rm.pathBoth := orders.pathBoth
  have derived : w.mc.derived = s.mc.derived := orders.derived
  have sp : w.mc.sp = s.mc.sp := orders.sp
  have parkEp : w.mc.parkEp = s.mc.parkEp := orders.parkEp
  have inited : w.mc.inited = true := kept.inited.trans hi
  have cond := pathBoth_iff inited
  have begins := finish_pathBoth_begins (w := w) (sampleStarted l s)
  have calm := finish_pathBoth_calm (w := w) (sampleStarted l s)
  rw [accepted, pathBoth]
  rw [fc, before] at begins
  rw [fc, cp, before] at calm
  refine ⟨cond, fun hb hp hl => begins (cond.2 hb) hp hl, fun hb hp hk hr => ?_, fun hd => ?_,
    fun hd hv hp he hf hr hl h1 h2 h3 hk => ?_⟩
  · refine calm hr (fun hc => hb (cond.1 hc)) fun _ _ => ⟨.inl (by rw [sp, hp]), ?_⟩
    rw [parkEp]; exact hk
  · have episode := endEvent_episode (sampleStarted l s) (sampleStarted l s).dt.slots (u := pathBothTest w) ?_
    · rw [← accepted]; exact episode
    · obtain q | k := pathBothTest_ends w
      · rw [q.derived]; exact derived.trans hd
      · exact k.derived
  · obtain ⟨conf, shift⟩ := idle hv hf
    have off : ¬w.pathBothCondition = true := fun hc => by
      obtain ⟨-, -, on⟩ := cond.1 hc
      rw [h3] at on; cases on
    rw [pathBothTest_quiet fun hc => absurd hc off]
    have at_pump : w.mc.splitPos = .engaged := splitPos_engaged inited h1 h2
    have pump : (w.setRm { w.rm with pathBoth := w.pathBothCondition }).modeOf = .pump :=
      modeOf_pump ((congrArg FC.lockdown fc :).trans hl) at_pump (conf.trans (orders.splitPos.symm.trans at_pump)) fun sh hs => by
        cases (show w.rm.shift = some sh from hs).symm.trans shift
    have released := endEvent_released (sampleStarted l s) (sampleStarted l s).dt.slots
      (u := w.setRm { w.rm with pathBoth := w.pathBothCondition }) ((congrArg CP.resync cp :).trans hr) (derived.trans hd) pump
      (sp.trans hp) hk (parkEp.trans he) ((congrArg FC.lockdown fc :).trans hl)
    rw [State.setRm_fc, fc] at released
    exact released

/-- R46: the first sample after a reset. -/
theorem firstSample_watches (hs : s.mc.sampleTimer.isSome = true) (hi : s.mc.inited = false) (hb : s.rm.pathBoth = false) :
    let both : Prop := l.shpump = true ∧ l.shroad = false ∧ l.ptorOn = true
    ∃ t, exec (.inputSample l) s = .next t
      ∧ (t.rm.pathBoth = true ↔ both)
      ∧ (both → s.fc.lockdown = false →
        (s.fc.critical = none → ∃ c, t.fc.critical = some c ∧ c.cause = .pathBoth ∧ c.res = none)
        ∧ (s.fc.critical.isSome = true → t.fc.lockdown = true ∧ t.mc.mode = .lockdown))
      ∧ (¬both → s.mc.derived = false → s.cp.resync = false → t.fc = s.fc) := by
  intro both
  have run : inputSampled l s = finish (sampleStarted l s) (firstSample l (sampleStarted l s)) := by
    unfold inputSampled
    rw [if_neg (by simpa [Option.isSome_iff_ne_none] using hs)]
    exact if_neg fun h => by cases hi.symm.trans h
  let d : State := ((sampleStarted l s).setMc { (sampleStarted l s).mc with deb := initDebouncers l, inited := true }).setPs
    { s.ps with validationTimer := some 30 }
  have first : firstSample l (sampleStarted l s) = pathBothTest (followBeforeMarking d) := rfl
  rw [first] at run
  have orders : Orders d (followBeforeMarking d) := followBeforeMarking_orders d
  have kept : Kept d (followBeforeMarking d) := followBeforeMarking_kept d
  generalize followBeforeMarking d = w at *
  have fc : w.fc = s.fc := orders.fc
  have cp : w.cp = s.cp := orders.cp
  have before : w.rm.pathBoth = false := orders.pathBoth.trans hb
  have accepted : w.mc.accepted = l := orders.accepted
  have cond := pathBoth_iff kept.inited
  rw [accepted] at cond
  have begins := finish_pathBoth_begins (w := w) (sampleStarted l s)
  rw [fc] at begins
  refine ⟨_, congrArg Host.Outcome.next run, ?_, fun hb hl => begins (cond.2 hb) before hl, fun hb hd hr => ?_⟩
  · rw [(finish_pathBoth (sampleStarted l s) w).1]
    exact cond
  · have calm := finish_pathBoth_calm (w := w) (sampleStarted l s) (by rw [cp, hr]) (fun hc => absurd (cond.1 hc) hb) fun hw => by
      have derived : w.mc.derived = s.mc.derived := orders.derived
      rw [derived, hd] at hw
      cases hw
    rw [calm, fc]

end

/-- Settles O32. -/
theorem pathBothAndPumpingWatches : Obligations.PathBothAndPumpingWatches := by
  unfold Obligations.PathBothAndPumpingWatches
  refine ⟨fun l s hs hi => ?_, fun l s hs hi hb => firstSample_watches hs hi hb, fun s hw hd hp hk hsplit hc hf hq hr hl => ?_⟩
  · obtain ⟨t, run, h⟩ := sample_watches (l := l) hs hi
    refine ⟨t, run, ?_⟩
    intro acc both ha
    obtain ⟨episode, begins, calm, park, released⟩ := h ha
    exact ⟨episode, begins, fun _ hb hp hk _ hr => calm (fun _ => hb) hp hk hr,
      fun hp he _ hb _ hr => calm (fun k => absurd k hb) hp (.inr he) hr, park, released⟩
  · intro sum
    have run := windowExpires_eq hw
    have pub := published s
    have line : PumpLine s :=
      ⟨hc, fun _ h => (by cases hf.symm.trans h), fun _ h => absurd (hq ▸ h) List.not_mem_nil⟩
    have pump := pub.pump line hl hsplit
    have on := followUp_parked s s.dt.slots (pub.resync.trans hr) (pub.derived.trans hd) pump (pub.sp.trans hp)
      (by rw [pub.accepted, hk])
    generalize slipWatch (cutsTaken s) = x at *
    have parked : Parked (followUp s s.dt.slots x) := ⟨on.resync.trans (pub.resync.trans hr), on.derived, on.sp,
      by rw [on.kept.accepted, pub.accepted, hk], (modeOf_congr (by rw [on.fc]) on.rm on.kept.splitPos).trans pump⟩
    have fc : (followUp s s.dt.slots x).fc = s.fc := on.fc.trans pub.fc
    have motion : (followUp s s.dt.slots x).mc.motionEp = s.mc.motionEp := on.motionEp.trans pub.motionEp
    have road : (followUp s s.dt.slots x).pcu.roadSum = sum := (congrArg PCU.roadSum on.kept.pcu).trans pub.road
    have tolerance : (followUp s s.dt.slots x).par = s.par := on.kept.par.trans pub.par
    obtain ⟨still, standing, moving⟩ := parked.watched s
    rw [road, tolerance, fc] at still standing moving
    rw [motion] at standing moving
    exact ⟨_, run, still, standing, fun h he => moving h he hl⟩

end Sys2Proof.Machine
end

section
/-! SUPPORT for O10. What an event does to a part in which a RESYNC waits (R183 to R185): the course of the Resource Manager's work
before its completion, and the tail of the event after it. -/
namespace Sys2Proof.Machine

/-! ## Records in the course of an event -/

/-- What no operation of an event does to a record before the changed flags are set: it keeps its kind, its resource and its changed
flag, and a FORFEIT record moves in lockdown alone. -/
structure Rec.Course (r r' : Rec) : Prop where
  changed : r'.changed = r.changed
  kind : r'.demand.kind = r.demand.kind
  resource : r'.demand.resource = r.demand.resource
  forfeit : r.isForfeit = true → r' = r ∨ r' = r.forfeited .lockdown

/-- What the end of an event may still do to a record: a shift's start, a critical condition, or lockdown. -/
def Rec.Later (r r' : Rec) : Prop :=
  r'.isForfeit = true
    ∨ (r'.reasons = r.reasons ∧ (r'.state = r.state ∨ (r.state = .queued ∧ r.isDischarge = false ∧ r'.state = .engaging)))
    ∨ (r.isDischarge = false ∧ r'.reasons.critical = true ∧ r'.state = .held)

namespace Rec

theorem Course.refl (r : Rec) : r.Course r := ⟨rfl, rfl, rfl, fun _ => .inl rfl⟩

theorem Course.isForfeit {r r' : Rec} (h : r.Course r') (k : r.isForfeit = true) : r'.isForfeit = true := by
  obtain rfl | rfl := h.forfeit k
  · exact k
  · rfl

theorem Course.trans {a b c : Rec} (h : a.Course b) (k : b.Course c) : a.Course c where
  changed := k.changed.trans h.changed
  kind := k.kind.trans h.kind
  resource := k.resource.trans h.resource
  forfeit := fun x => by
    obtain rfl | rfl := h.forfeit x
    · exact k.forfeit x
    · obtain rfl | rfl := k.forfeit rfl
      · exact .inr rfl
      · exact .inr rfl

theorem Course.isDischarge {r r' : Rec} (h : r.Course r') : r'.isDischarge = r.isDischarge := by
  simp [Rec.isDischarge, h.kind]

theorem Later.refl (r : Rec) : r.Later r := .inr (.inl ⟨rfl, .inl rfl⟩)

theorem Later.trans {a b c : Rec} (h : a.Course b ∧ a.Later b) (k : b.Course c ∧ b.Later c) : a.Later c := by
  obtain ⟨hc, h⟩ := h
  obtain ⟨kc, k⟩ := k
  obtain h | ⟨re, h⟩ | ⟨d, cr, st⟩ := h
  · exact .inl (kc.isForfeit h)
  · obtain k | ⟨re', k⟩ | ⟨d', k⟩ := k
    · exact .inl k
    · refine .inr (.inl ⟨re'.trans re, ?_⟩)
      obtain h | ⟨q, d, e⟩ := h
      · obtain k | ⟨q', d', e'⟩ := k
        · exact .inl (k.trans h)
        · exact .inr ⟨h ▸ q', hc.isDischarge ▸ d', e'⟩
      · obtain k | ⟨q', -⟩ := k
        · exact .inr ⟨q, d, k.trans e⟩
        · rw [e] at q'; cases q'
    · exact .inr (.inr ⟨hc.isDischarge ▸ d', k⟩)
  · obtain k | ⟨re', k⟩ | ⟨-, k⟩ := k
    · exact .inl k
    · refine .inr (.inr ⟨d, by rw [re', cr], ?_⟩)
      obtain k | ⟨q', -⟩ := k
      · exact k.trans st
      · rw [st] at q'; cases q'
    · exact .inr (.inr ⟨d, k⟩)

theorem withReason_course (m : RM) (h : HoldReason) (b : Bool) (p : Rec → Bool) (r : Rec) : r.Course (Rec.withReason m h b p r) := by
  unfold Rec.withReason
  cases hf : r.isForfeit
  · split
    · exact .refl r
    · exact ⟨rfl, rfl, rfl, fun x => by rw [hf] at x; cases x⟩
  · exact .refl r

/-- R23: a pump record that gains CRITICAL is HELD. -/
theorem withCritical_later (m : RM) (r : Rec) : r.Later (Rec.withReason m .critical true Rec.isPump r) := by
  unfold Rec.withReason
  split
  · exact .refl r
  · rename_i h
    have pump : r.isPump = true := by simp_all
    refine .inr (.inr ⟨not_discharge_of_isPump r pump, rfl, ?_⟩)
    simp [service, serviceState, Reasons.set, Reasons.isNone]

theorem forfeited_course (r : Rec) : r.Course (r.forfeited .lockdown) ∧ r.Later (r.forfeited .lockdown) :=
  ⟨⟨rfl, rfl, rfl, fun _ => .inr rfl⟩, .inl rfl⟩

theorem withSuspension_course (f : FoamTank → FoamSusp) (r : Rec) : r.Course (r.withSuspension f) ∧ r.Later (r.withSuspension f) := by
  obtain ⟨⟨state, reasons, -⟩, -, -⟩ := withSuspension_stands f r
  refine ⟨?_, .inr (.inl ⟨reasons, .inl state⟩)⟩
  obtain ⟨d, n, st, rs, l, ch⟩ := r
  unfold Rec.withSuspension
  split
  · rename_i hf hd
    have hd : d = _ := hd
    subst hd
    exact ⟨rfl, rfl, rfl, fun x => by rw [hf] at x; cases x⟩
  · exact .refl _

theorem Reported.course {r r' : Rec} (h : r.Reported r') : r.Course r' := by
  obtain ⟨demand, changed, forfeit⟩ := h
  exact ⟨changed, by rw [demand], by rw [demand], fun x => .inl (forfeit x)⟩

end Rec

/-! ## The course of an event -/

/-- What an event does to the Command Port, the slot and the captures before a waiting RESYNC completes. -/
structure Course (s t : State) : Prop where
  answer : t.cp.answer = s.cp.answer
  mask : t.cp.mask = s.cp.mask
  resetKind : t.cp.resetKind = s.cp.resetKind
  txn : t.cp.txn = s.cp.txn
  resync : t.cp.resync = s.cp.resync
  resyncDone : t.cp.flags.resyncDone = s.cp.flags.resyncDone
  closed : t.rm.closed = s.rm.closed
  apply : s.pe.apply = none → t.pe.apply = none
  lockdown : s.fc.lockdown = true → t.fc.lockdown = true
  lockFlag : t.cp.flags.lockdown = (s.cp.flags.lockdown || (!s.fc.lockdown && t.fc.lockdown))
  critical : s.fc.critical.isSome = true → t.fc.critical.isSome = true
  criticalFlag : t.cp.flags.critical = (s.cp.flags.critical || (s.fc.critical.isNone && t.fc.critical.isSome))
  records : Moves Rec.Course s t

/-- What an event does after a waiting RESYNC has completed, but for the changed flags. -/
structure Tail (s t : State) : Prop extends Course s t where
  standard : t.fc.standard = s.fc.standard
  also : t.fc.also = s.fc.also
  flags : s.pe.apply = none → ∃ l c m, t.cp.flags = { s.cp.flags with lockdown := l, critical := c, modeChanged := m }
  later : Moves (fun r r' => r.Course r' ∧ r.Later r') s t

section
variable {s t u : State}

/-- A flag raised where a state begins, over two stretches of an event. -/
theorem raised_trans : ∀ f a b c : Bool, (a = true → b = true) → (b = true → c = true) →
    ((f || (!a && b)) || (!b && c)) = (f || (!a && c)) := by decide

theorem Course.trans (h : Course s t) (k : Course t u) : Course s u where
  answer := k.answer.trans h.answer
  mask := k.mask.trans h.mask
  resetKind := k.resetKind.trans h.resetKind
  txn := k.txn.trans h.txn
  resync := k.resync.trans h.resync
  resyncDone := k.resyncDone.trans h.resyncDone
  closed := k.closed.trans h.closed
  apply := fun x => k.apply (h.apply x)
  lockdown := fun x => k.lockdown (h.lockdown x)
  lockFlag := by
    rw [k.lockFlag, h.lockFlag]
    exact raised_trans _ _ _ _ h.lockdown k.lockdown
  critical := fun x => k.critical (h.critical x)
  criticalFlag := by
    rw [k.criticalFlag, h.criticalFlag]
    simp only [← Option.not_isSome]
    exact raised_trans _ _ _ _ h.critical k.critical
  records := h.records.trans k.records fun _ _ _ => .trans

theorem Tail.trans (h : Tail s t) (k : Tail t u) : Tail s u where
  toCourse := h.toCourse.trans k.toCourse
  standard := k.standard.trans h.standard
  also := k.also.trans h.also
  flags := fun x => by
    obtain ⟨l, c, m, e⟩ := h.flags x
    obtain ⟨l', c', m', e'⟩ := k.flags (h.apply x)
    exact ⟨l', c', m', by rw [e', e]⟩
  later := h.later.trans k.later fun _ _ _ a b => ⟨a.1.trans b.1, .trans a b⟩

/-- An operation that leaves the Command Port but for its flags, the captures and the apply. -/
theorem Course.of_eq (hc : t.cp = s.cp) (hf : t.fc.lockdown = s.fc.lockdown) (hk : t.fc.critical = s.fc.critical)
    (hr : t.rm.closed = s.rm.closed) (hp : t.pe = s.pe) (h : Moves Rec.Course s t) : Course s t where
  answer := by rw [hc]
  mask := by rw [hc]
  resetKind := by rw [hc]
  txn := by rw [hc]
  resync := by rw [hc]
  resyncDone := by rw [hc]
  closed := hr
  apply := fun x => by rw [hp, x]
  lockdown := fun x => by rw [hf, x]
  lockFlag := by rw [hc, hf]; simp
  critical := fun x => by rw [hk, x]
  criticalFlag := by rw [hc, hk]; cases s.fc.critical <;> simp
  records := h

theorem Tail.of_eq (hc : t.cp = s.cp) (hf : t.fc = s.fc) (hr : t.rm.closed = s.rm.closed) (hp : t.pe = s.pe)
    (h : Moves (fun r r' => r.Course r' ∧ r.Later r') s t) : Tail s t where
  toCourse := .of_eq hc (by rw [hf]) (by rw [hf]) hr hp (h.mono fun _ _ x => x.1)
  standard := by rw [hf]
  also := by rw [hf]
  flags := fun _ => ⟨_, _, _, by rw [hc]⟩
  later := h

theorem tail_of_dt (s t : State) (h : t.dt = s.dt) : Moves (fun r r' => r.Course r' ∧ r.Later r') s t :=
  .of_dt (fun r => ⟨.refl r, .refl r⟩) h

theorem Tail.refl (s : State) : Tail s s := .of_eq rfl rfl rfl rfl (tail_of_dt s s rfl)

theorem Orders.course (o : Orders s t) : Course s t :=
  .of_eq o.cp (by rw [o.fc]) (by rw [o.fc]) o.closed o.pe (o.records.mono fun _ _ => Rec.Reported.course)

theorem standardFault_course (c : Cause) (w : Option Res) (s : State) : Course s (standardFault c w s) := by
  have kept := standardFault_kept s c w
  have flags : (standardFault c w s).cp.flags.resyncDone = s.cp.flags.resyncDone
      ∧ (standardFault c w s).cp.flags.lockdown = s.cp.flags.lockdown
      ∧ (standardFault c w s).cp.flags.critical = s.cp.flags.critical ∧ (standardFault c w s).cp.txn = s.cp.txn := by
    unfold standardFault
    split <;> exact ⟨rfl, rfl, rfl, rfl⟩
  obtain ⟨resyncDone, lock, critical, txn⟩ := flags
  exact ⟨kept.answer, kept.mask, kept.resetKind, txn, by simp, resyncDone, by simp, fun x => by simpa using x, fun x => by simpa using x,
    by rw [lock]; simp, fun x => by simpa using x, by rw [critical]; cases h : s.fc.critical <;> simp [h],
    .of_dt Rec.Course.refl (by simp)⟩

theorem Quiet.tail (q : Quiet s t) : Tail s t := by
  have flags := q.flags
  have later : Moves (fun r r' => r.Course r' ∧ r.Later r') s t := by
    obtain ⟨-, d, -⟩ | ⟨-, -, -, d, -⟩ := q.captured
    · exact tail_of_dt s t d
    · refine .of_map (f := Rec.withReason s.rm .critical true Rec.isPump) (fun i => ?_) fun r =>
        ⟨Rec.withReason_course _ _ _ _ r, Rec.withCritical_later _ r⟩
      rw [d]
      exact slot_map_record _ _ _ i
  exact {
    answer := q.kept.answer
    mask := q.kept.mask
    resetKind := q.kept.resetKind
    txn := q.txn
    resync := q.resync
    resyncDone := by rw [flags]
    closed := by rw [q.rm]
    apply := fun x => by rw [q.pe, x]
    lockdown := fun x => by rw [q.lockdown, x]
    lockFlag := by rw [flags, q.lockdown]; simp
    critical := fun x => by
      obtain ⟨c, hc⟩ := Option.isSome_iff_exists.1 x
      rw [q.critical hc]; rfl
    criticalFlag := by rw [flags]
    records := later.mono fun _ _ x => x.1
    standard := q.standard
    also := q.also
    flags := fun _ => ⟨_, _, _, flags⟩
    later := later }

theorem Locks.tail (l : Locks s t) : Tail s t := by
  obtain ⟨m, flags⟩ := l.flags
  have later : Moves (fun r r' => r.Course r' ∧ r.Later r') s t :=
    .of_map l.records fun r => Rec.forfeited_course r
  exact {
    answer := l.kept.answer
    mask := l.kept.mask
    resetKind := l.kept.resetKind
    txn := l.txn
    resync := l.resync
    resyncDone := by rw [flags]
    closed := l.closed
    apply := fun _ => l.apply
    lockdown := fun _ => l.lockdown
    lockFlag := by rw [flags, l.lockdown, l.before]; simp
    critical := fun _ => l.filled
    criticalFlag := by rw [flags, l.filled]; simp
    records := later.mono fun _ _ x => x.1
    standard := l.standard
    also := l.also
    flags := fun x => ⟨true, s.cp.flags.critical || s.fc.critical.isNone, m, by rw [flags, x]; simp⟩
    later := later }

theorem Ends.tail (h : Ends s t) : Tail s t := by
  obtain q | l := h
  · exact q.tail
  · exact l.tail

theorem deriveMode_tail (s : State) : Tail s (deriveMode s) := by
  have kept := deriveMode_kept s
  have flags := deriveMode_flags s
  exact {
    answer := kept.answer
    mask := kept.mask
    resetKind := kept.resetKind
    txn := by simp
    resync := by simp
    resyncDone := by rw [flags]
    closed := by simp
    apply := fun x => by simpa using x
    lockdown := fun x => by simpa using x
    lockFlag := by rw [flags]; simp
    critical := fun x => by simpa using x
    criticalFlag := by rw [flags]; cases h : s.fc.critical <;> simp [h]
    records := .of_dt Rec.Course.refl (by simp)
    standard := by simp
    also := by simp
    flags := fun _ => ⟨_, _, _, flags⟩
    later := tail_of_dt _ _ (by simp) }

theorem deriveAndWatch_tail (s : State) : Tail s (deriveAndWatch s) := (deriveMode_tail s).trans (deriveAndWatch_ends s).tail

theorem evaluateSuspensions_tail (s : State) : Tail s (evaluateSuspensions s) :=
  .of_eq (by simp) (by simp) (by simp) (by simp) (.of_map (evaluateSuspensions_record s) fun r => Rec.withSuspension_course _ r)

theorem positionWatches_tail (s : State) : Tail s (positionWatches s) := by
  obtain ⟨m, a, b, e, core, -⟩ := positionWatches_eq s
  rw [e]
  exact .of_eq rfl rfl (congrArg RM.closed core :) rfl (tail_of_dt _ _ rfl)

end
end Sys2Proof.Machine
end

section
/-! SUPPORT for O10. RESYNC's completion in six steps (R184), and what it leaves at the event's end. -/
namespace Sys2Proof.Machine

/-- Every record's changed flag is set. -/
def State.Marked (s : State) : Prop := ∀ i r, (s.dt.slot i).record = some r → r.changed = true

/-! ## Which marks raise DEMAND_CHANGED -/

theorem anyRaised_mark (l : List Slot) : anyRaised l (l.map (Slot.mapRec Rec.mark)) = true ↔
    ∃ x ∈ l, ∃ r, x.record = some r ∧ r.changed = false := by
  induction l with
  | nil => simp [anyRaised]
  | cons x l ih =>
    rw [List.map_cons, anyRaised, Bool.or_eq_true, ih, record_mapRec]
    cases hx : x.record with
    | none => simp [hx]
    | some r => simp [hx, Rec.mark]

/-- A slot is marked where its record differs from the one it is measured from. -/
theorem markSlots_getD : ∀ (b l : List Slot) (i : Nat), (markSlots b l).getD i Slot.reset =
    if slotChanged (b.getD i Slot.reset) (l.getD i Slot.reset) then (l.getD i Slot.reset).mapRec Rec.mark
    else l.getD i Slot.reset
  | [], l, i => by
    have none : slotChanged Slot.reset (l.getD i Slot.reset) = false := rfl
    simp only [markSlots, List.getD_nil, none]
    rfl
  | x :: b, [], i => by
    have none (y : Slot) : slotChanged y Slot.reset = false := by unfold slotChanged; cases y.record <;> rfl
    simp only [markSlots, List.getD_nil, none]
    rfl
  | x :: b, y :: l, 0 => rfl
  | x :: b, y :: l, i + 1 => markSlots_getD b l i

theorem slotChanged_watched {x y : Slot} {r q : Rec} (hx : x.record = some r) (hy : y.record = some q)
    (h : q.watched = r.watched) : slotChanged x y = false := by
  simp [slotChanged, hx, hy, h]

theorem mem_of_record {s : State} {i : Nat} {r : Rec} (h : (s.dt.slot i).record = some r) : s.dt.slot i ∈ s.dt.slots := by
  unfold DT.slot at h ⊢
  rw [List.getD_eq_getElem?_getD] at h ⊢
  cases hx : s.dt.slots[i]? with
  | none => rw [hx] at h; cases h
  | some x => exact List.mem_of_getElem? hx

/-- The changes that stand unmarked where RESYNC completes raise DEMAND_CHANGED (R184 step 3, R21). -/
theorem completion_raises {s u : State} {i : Nat} {r q : Rec} (hr : (s.dt.slot i).record = some r)
    (hq : (u.dt.slot i).record = some q) (hw : q.watched = r.watched) (hc : q.changed = false) :
    anyRaised (markSlots s.dt.slots u.dt.slots) (u.dt.slots.map (Slot.mapRec Rec.mark)) = true := by
  rw [← markSlots_all s.dt.slots, anyRaised_mark]
  have same : (markSlots s.dt.slots u.dt.slots).getD i Slot.reset = u.dt.slot i := by
    have unchanged : slotChanged (s.dt.slots.getD i Slot.reset) (u.dt.slots.getD i Slot.reset) = false :=
      slotChanged_watched hr hq hw
    rw [markSlots_getD, unchanged]
    rfl
  refine ⟨u.dt.slot i, ?_, q, hq, hc⟩
  rw [← same] at hq ⊢
  exact mem_of_record (s := { u with dt := ⟨markSlots s.dt.slots u.dt.slots, []⟩ }) hq

theorem mem_slot {l : List Slot} {x : Slot} (h : x ∈ l) : ∃ i, l.getD i Slot.reset = x := by
  obtain ⟨i, hi, rfl⟩ := List.getElem_of_mem h
  exact ⟨i, by simp [List.getD_eq_getElem?_getD, hi]⟩

/-- Records that are all marked already raise nothing. -/
theorem completion_silent {s u : State} (h : u.Marked) :
    anyRaised (markSlots s.dt.slots u.dt.slots) (u.dt.slots.map (Slot.mapRec Rec.mark)) = false := by
  rw [← markSlots_all s.dt.slots, Bool.eq_false_iff]
  intro k
  obtain ⟨x, hx, r, hr, hc⟩ := (anyRaised_mark _).1 k
  obtain ⟨i, rfl⟩ := mem_slot hx
  rw [markSlots_getD] at hr
  split at hr
  · rw [record_mapRec] at hr
    obtain ⟨q, -, rfl⟩ := Option.map_eq_some_iff.1 hr
    cases hc
  · rw [h i r hr] at hc
    cases hc

theorem anyRaised_marked : ∀ b l : List Slot, (∀ i r, (l.getD i Slot.reset).record = some r → r.changed = true) →
    anyRaised l (markSlots b l) = false
  | b, [], _ => by cases b <;> rfl
  | [], x :: l, h => by
    have tail := anyRaised_marked [] l fun i r k => h (i + 1) r k
    simp only [markSlots] at tail ⊢
    rw [anyRaised, tail]
    cases hx : x.record with
    | none => rfl
    | some r => simp [h 0 r hx]
  | y :: b, x :: l, h => by
    have tail := anyRaised_marked b l fun i r k => h (i + 1) r k
    rw [markSlots, anyRaised, tail]
    cases hx : x.record with
    | none => rfl
    | some r => cases hy : (if slotChanged y x = true then x.mapRec Rec.mark else x).record <;> simp [h 0 r hx]

/-! ## The completion -/

/-- The part in which RESYNC has completed, before the head entry takes the opened slot. -/
structure Opened (b : List Slot) (u m : State) : Prop where
  kept : Kept u m
  rm : m.rm = { u.rm with closed := false }
  fc : m.fc = { u.fc with standard := none, also := [] }
  mc : m.mc = u.mc
  pe : m.pe = u.pe
  resync : m.cp.resync = false
  txn : m.cp.txn = u.cp.txn.abort
  flags : m.cp.flags = { lockdown := u.cp.flags.lockdown, critical := u.cp.flags.critical, standard := false,
                         demandChanged := anyRaised (markSlots b u.dt.slots) (u.dt.slots.map (Slot.mapRec Rec.mark)),
                         modeChanged := false, tankChanged := false, presetDone := false, profileDone := false,
                         resyncDone := true }
  record : ∀ i, (m.dt.slot i).record = (u.dt.slot i).record.map Rec.mark

theorem completeResync_opens (b : List Slot) (u : State) : ∃ m, completeResync b u = startHead m ∧ Opened b u m := by
  have kept := completeResync_kept u b
  obtain ⟨c, e, resync, txn, flags⟩ := completeResync_eq b u
  have o := startHead_orders ((((u.setDt { u.dt with slots := u.dt.slots.map (Slot.mapRec Rec.mark) }).setFc
    { u.fc with standard := none, also := [] }).setCp c).setRm { u.rm with closed := false })
  rw [← e] at o
  have cp : (completeResync b u).cp = c := o.cp
  refine ⟨_, e, ⟨⟨rfl, rfl, rfl, rfl, rfl, rfl, ?_, ?_, ?_, rfl, rfl, rfl, rfl, rfl, rfl, rfl, rfl, id⟩, rfl, rfl, rfl, rfl, resync, txn,
    flags, fun i => slot_map_record _ _ _ i⟩⟩
  · exact (congrArg CP.mask cp).symm.trans kept.mask
  · exact (congrArg CP.resetKind cp).symm.trans kept.resetKind
  · exact (congrArg CP.answer cp).symm.trans kept.answer

section
variable {s u m p t : State} {b : List Slot}

theorem Opened.marked (h : Opened b u m) : m.Marked := fun i r hr => by
  rw [h.record] at hr
  obtain ⟨q, -, rfl⟩ := Option.map_eq_some_iff.1 hr
  rfl

theorem marked_of_course (h : s.Marked) (k : Moves Rec.Course s t) : t.Marked := fun i r hr => by
  obtain ⟨q, hq, c⟩ := k.back hr
  rw [c.changed]
  exact h i q hq

/-- What stands, after the completion, of the Command Port, the captures and the records (R184). -/
def ResyncCompleted (sh : Shift) (s t : State) : Prop :=
  t.fc.standard = none ∧ t.fc.also = []
    ∧ t.cp.flags.standard = false ∧ t.cp.flags.tankChanged = false ∧ t.cp.flags.presetDone = false ∧ t.cp.flags.profileDone = false
    ∧ t.cp.flags.lockdown = (s.cp.flags.lockdown || t.fc.lockdown)
    ∧ t.cp.flags.critical = (s.cp.flags.critical || (s.fc.critical.isNone && t.fc.critical.isSome))
    ∧ (∀ i r, (t.dt.slot i).record = some r → r.changed = true)
    ∧ ((∀ r ∈ s.dt.records, r.changed = true) → t.cp.flags.demandChanged = false)
    ∧ (∀ i r, (s.dt.slot i).record = some r → r.changed = false → r.holds sh.res = false ∨ r.state = .held →
        (t.dt.slot i).record = some { r with changed := true } → t.cp.flags.demandChanged = true)
    ∧ t.cp.txn = (if s.cp.txn = .active then .aborted else s.cp.txn)
    ∧ t.cp.resync = false ∧ t.cp.flags.resyncDone = true ∧ t.rm.closed = false
    ∧ t.cp.answer = s.cp.answer ∧ t.cp.mask = s.cp.mask ∧ t.cp.resetKind = s.cp.resetKind

/-- From the event's beginning to RESYNC's completion, and from there to the end of the event. -/
structure Completes (s u m p t : State) : Prop where
  before : s.fc.lockdown = false
  apply : s.pe.apply = none
  work : Course s u
  opened : Opened s.dt.slots u m
  tail : Tail (startHead m) p
  ends : t = markChanged s.dt.slots p

/-- The record that DEMAND_CHANGED is raised for stands where RESYNC completes as it began the event. -/
def Raises (sh : Shift) (s u t : State) : Prop :=
  ∀ i r, (s.dt.slot i).record = some r → r.changed = false → r.holds sh.res = false ∨ r.state = .held →
    (t.dt.slot i).record = some { r with changed := true } →
    ∃ q, (u.dt.slot i).record = some q ∧ q.watched = r.watched

/-- R184: the six steps, at the end of the event. -/
theorem Completes.completed (h : Completes s u m p t) (sh : Shift) (hr : Raises sh s u t) : ResyncCompleted sh s t := by
  obtain ⟨before, apply, work, opened, tail, rfl⟩ := h
  have head := startHead_orders m
  have marked : p.Marked := marked_of_course (marked_of_course opened.marked head.course.records) tail.records
  have silent : anyRaised p.dt.slots (markSlots s.dt.slots p.dt.slots) = false := anyRaised_marked _ _ marked
  obtain ⟨l, c, mo, pflags⟩ := tail.flags (by rw [head.pe, opened.pe]; exact work.apply apply)
  have tflags : (markChanged s.dt.slots p).cp.flags = p.cp.flags := by
    rw [markChanged_flags, silent, Bool.or_false]
  have flags : (markChanged s.dt.slots p).cp.flags = { m.cp.flags with lockdown := l, critical := c, modeChanged := mo } := by
    rw [tflags, pflags, head.cp]
  have kept := markChanged_kept p s.dt.slots
  have lock : (startHead m).fc.lockdown = u.fc.lockdown := by rw [head.fc, opened.fc]
  have crit : (startHead m).fc.critical = u.fc.critical := by rw [head.fc, opened.fc]
  have demand : (markChanged s.dt.slots p).cp.flags.demandChanged =
      anyRaised (markSlots s.dt.slots u.dt.slots) (u.dt.slots.map (Slot.mapRec Rec.mark)) := by
    rw [flags, opened.flags]
  refine ⟨?_, ?_, ?_, ?_, ?_, ?_, ?_, ?_, fun i r hx => ?_, fun hs => ?_, fun i r hx hc hh ht => ?_, ?_, ?_, ?_, ?_, ?_, ?_, ?_⟩
  · rw [markChanged_fc, tail.standard, head.fc, opened.fc]
  · rw [markChanged_fc, tail.also, head.fc, opened.fc]
  · rw [flags, opened.flags]
  · rw [flags, opened.flags]
  · rw [flags, opened.flags]
  · rw [flags, opened.flags]
  · have mono := tail.lockdown
    rw [tflags, tail.lockFlag, head.cp, opened.flags, work.lockFlag, before, markChanged_fc]
    rw [lock] at mono ⊢
    cases hu : u.fc.lockdown
    · simp
    · rw [mono hu]; simp
  · rw [tflags, tail.criticalFlag, head.cp, opened.flags, work.criticalFlag, markChanged_fc, crit]
    have mono := tail.critical
    rw [crit] at mono
    simp only [← Option.not_isSome]
    exact raised_trans _ _ _ _ work.critical mono
  · obtain ⟨q, hq, e⟩ := (markChanged_records p s.dt.slots).back hx
    obtain rfl | rfl := e
    · exact marked i r hq
    · rfl
  · rw [demand]
    exact completion_silent (marked_of_course (fun i r hx => hs r (mem_records_iff.2 ⟨i, hx⟩)) work.records)
  · obtain ⟨q, hq, hw⟩ := hr i r hx hc hh ht
    obtain ⟨r', hr', k⟩ := work.records.back hq
    rw [hx] at hr'
    obtain rfl := Option.some.inj hr'
    rw [demand]
    exact completion_raises hx hq hw (by rw [k.changed, hc])
  · rw [markChanged_txn, tail.txn, head.cp, opened.txn, work.txn]
    cases s.cp.txn <;> rfl
  · rw [markChanged_resync, tail.resync, head.cp, opened.resync]
  · rw [flags, opened.flags]
  · rw [markChanged_rm, tail.closed, head.closed, opened.rm]
  · rw [kept.answer, tail.answer, head.cp, opened.kept.answer, work.answer]
  · rw [kept.mask, tail.mask, head.cp, opened.kept.mask, work.mask]
  · rw [kept.resetKind, tail.resetKind, head.cp, opened.kept.resetKind, work.resetKind]

end
end Sys2Proof.Machine
end

section
/-! O10, first part: RESYNC's refusals and its acceptance beside a shift (R183, R55). -/
namespace Sys2Proof.Machine

section
variable {s u y : State}

/-! ## The end of an event in which RESYNC completes -/

/-- R183: where no shift is left in flight RESYNC completes first, and the event ends as one in which none waits. -/
theorem endEvent_completes (s0 : State) (b : List Slot) (hr : u.cp.resync = true) (hs : u.rm.shift = none) :
    endEvent s0 b u = endEvent s0 b (completeResync b u) ∧ (completeResync b u).cp.resync = false := by
  obtain ⟨m, e, opened⟩ := completeResync_opens b u
  have resync : (completeResync b u).cp.resync = false := by rw [e, (startHead_orders m).cp, opened.resync]
  have first : settleResync b u = completeResync b u := by simp [settleResync, hr, hs]
  have second : settleResync b (completeResync b u) = completeResync b u := by simp [settleResync, resync]
  have follow : followUp s0 b u = followUp s0 b (completeResync b u) := by
    unfold followUp
    rw [first, second]
  exact ⟨by unfold endEvent; rw [follow], resync⟩

/-- The tail of an event in which no RESYNC waits, but for the changed flags. -/
theorem endEvent_tail (s0 : State) (b : List Slot) (h : y.cp.resync = false) : ∃ p, Tail y p ∧ endEvent s0 b y = markChanged b p := by
  obtain ⟨v, w, hv, hw, -, e⟩ := endEvent_parts s0 b h
  have first : Tail y v := by
    rw [hv]; split
    · exact .refl y
    · exact evaluateSuspensions_tail y
  have second : Tail v w := by
    rw [hw]; split
    · exact deriveAndWatch_tail v
    · exact .refl v
  exact ⟨_, (first.trans second).trans (positionWatches_tail w), e⟩

/-! ## Acceptance (R183) -/

/-- R183: RESYNC is in progress, the staging record discarded and the slot closed. -/
def resyncAccepted (s : State) : State :=
  (((endTransaction s).setCp { (endTransaction s).cp with resync := true }).setPs { s.ps with staging := none }).setRm
    { s.rm with closed := true }

theorem acceptResync_eq (h : s.pe.apply = none) : acceptResync (endTransaction s) = returnShift (resyncAccepted s) := by
  have abandoned : abandonApply .resync none ((endTransaction s).setCp { (endTransaction s).cp with resync := true }) =
      (endTransaction s).setCp { (endTransaction s).cp with resync := true } := by
    unfold abandonApply
    rw [State.setCp_pe]
    have none : (endTransaction s).pe.apply = none := h
    rw [none]
  unfold acceptResync
  dsimp only
  rw [abandoned]
  rfl

theorem resync_refused_lockdown (h : Serving s) (hl : s.fc.lockdown = true) :
    exec .resync s = .next (answered 0x24 .lockdown .empty s) := by
  have served : serveResync (endTransaction s) = (endTransaction s, .of .lockdown) := by
    unfold serveResync
    exact if_pos hl
  have run : takeRequest 0x24 false serveResync s = answered 0x24 .lockdown .empty s := by
    rw [takeRequest_serving h, served]; rfl
  exact congrArg Host.Outcome.next run

theorem resync_refused_busy (h : Serving s) (hl : s.fc.lockdown = false) (ho : s.ps.op.isSome = true) :
    exec .resync s = .next (answered 0x24 .busy .empty s) := by
  have lock : (endTransaction s).fc.lockdown = false := hl
  have busy : (endTransaction s).storeBusy = true := ho
  have served : serveResync (endTransaction s) = (endTransaction s, .of .busy) := by simp [serveResync, lock, busy]
  have run : takeRequest 0x24 false serveResync s = answered 0x24 .busy .empty s := by
    rw [takeRequest_serving h, served]; rfl
  exact congrArg Host.Outcome.next run

theorem resync_accepted (h : Serving s) (hl : s.fc.lockdown = false) (ho : s.ps.op = none) (ha : s.pe.apply = none) :
    exec .resync s = .next (putAnswer 0x24 (.of .accepted) (finish (endTransaction s) (returnShift (resyncAccepted s)))) := by
  have lock : (endTransaction s).fc.lockdown = false := hl
  have idle : (endTransaction s).storeBusy = false := by
    have op : (endTransaction s).ps.op = none := ho
    simp [State.storeBusy, op]
  have served : serveResync (endTransaction s) =
      (finish (endTransaction s) (returnShift (resyncAccepted s)), .of .accepted) := by
    simp [serveResync, lock, idle, acceptResync_eq ha]
  have run : takeRequest 0x24 false serveResync s =
      putAnswer 0x24 (.of .accepted) (finish (endTransaction s) (returnShift (resyncAccepted s))) := by
    rw [takeRequest_serving h, served]
  exact congrArg Host.Outcome.next run

/-- The part at rest stays so while RESYNC is in progress beside its shift. -/
theorem resyncAccepted_atRest (h : AtRest s) (hs : s.rm.shift.isSome = true) : AtRest (resyncAccepted s) := by
  obtain ⟨hp, hw, hd, -⟩ := h
  refine ⟨hp, hw, fun hv r hr => ?_, fun _ => hs⟩
  have k := hd hv r hr
  cases r <;> exact k

/-- R183: beside a shift in ACTUATE or SETTLE the RESYNC waits, and nothing else moves. -/
theorem resync_waits {sh : Shift} (h : Serving s) (hr : AtRest s) (hl : s.fc.lockdown = false) (ho : s.ps.op = none)
    (ha : s.pe.apply = none) (hs : s.rm.shift = some sh) (hg : sh.stage ≠ .prepare) : exec .resync s = .next { s with
      cp := { s.cp with txn := .idle, sdo := none, resync := true, answer := ⟨0x24, .accepted, .empty⟩ },
      ps := { s.ps with staging := none }, rm := { s.rm with closed := true } } := by
  have stays : returnShift (resyncAccepted s) = resyncAccepted s := by
    have shift : (resyncAccepted s).rm.shift = some sh := hs
    simp [returnShift, shift, hg]
  have ends : finish (endTransaction s) (resyncAccepted s) = resyncAccepted s := by
    have rest := endEvent_atRest (s0 := endTransaction s) (endTransaction s).dt.slots
      (resyncAccepted_atRest hr (by rw [hs]; rfl)) rfl
    exact rest.trans (markChanged_self (resyncAccepted s))
  rw [resync_accepted h hl ho ha, stays, ends]
  rfl

/-! ## A shift returned from PREPARE (R55) -/

theorem returnShift_prepare {sh : Shift} (hs : s.rm.shift = some sh) (hg : sh.stage = .prepare)
    (hc : (s.res sh.res).conf = s.input sh.res) (hp : s.rm.pumpPath = s.rm.pathEngaged) :
    returnShift s = s.setRm { s.rm with queue := ⟨sh.res, sh.op, true⟩ :: s.rm.queue, shift := none } := by
  have stands : leaveSlot sh.res (s.setRm { s.rm with queue := ⟨sh.res, sh.op, true⟩ :: s.rm.queue }) =
      s.setRm { s.rm with queue := ⟨sh.res, sh.op, true⟩ :: s.rm.queue, shift := none } := by
    unfold leaveSlot takeConfirm
    dsimp only
    rw [if_pos]
    · rfl
    · cases h : sh.res <;> rw [h] at hc <;> exact hc
  have path : checkPumpPath (s.setRm { s.rm with queue := ⟨sh.res, sh.op, true⟩ :: s.rm.queue, shift := none }) =
      s.setRm { s.rm with queue := ⟨sh.res, sh.op, true⟩ :: s.rm.queue, shift := none } := by
    unfold checkPumpPath
    exact if_pos hp.symm
  unfold returnShift
  rw [hs]
  dsimp only
  rw [if_pos hg, stands, path]

theorem slotTaken_record (e : Entry) (rest : List Entry) (s : State) (i : Nat) : ((slotTaken e rest s).dt.slot i).record =
    (s.dt.slot i).record.map (fun r => if e.op = .engage ∧ (r.holds e.res && r.state == .queued) = true then
      { r with state := .engaging } else r) := by
  have split (t : State) : (splitTakesSlot e.res t).dt = t.dt := by unfold splitTakesSlot; split <;> rfl
  unfold slotTaken; dsimp only
  split
  · rename_i h
    refine (updateRecords_record _ _ i).trans ?_
    rw [split]
    simp [h]
  · rename_i h
    rw [split]
    simp [h]

theorem slotTaken_mc (e : Entry) (rest : List Entry) (s : State) : (slotTaken e rest s).mc =
    if e.res = .split then { s.mc with splitTimer := none, splitReported := false } else s.mc := by
  have split (t : State) (h : t.mc = s.mc) : (splitTakesSlot e.res t).mc =
      if e.res = .split then { s.mc with splitTimer := none, splitReported := false } else s.mc := by
    unfold splitTakesSlot; split
    · rw [State.setMc_mc, h]
    · exact h
  unfold slotTaken; dsimp only
  split
  · exact (updateRecords_mc _ _).trans (split _ rfl)
  · exact split _ rfl

theorem slotTaken_cmd (e : Entry) (rest : List Entry) (s : State) (q : Res) :
    ((slotTaken e rest s).res q).cmd = (s.res q).cmd := by
  rw [State.res, slotTaken_rm]
  obtain ⟨r, -, -⟩ := e
  cases r <;> cases q <;> rfl

theorem slotTaken_watch (e : Entry) (rest : List Entry) (s : State) (q : Res) (h : q ≠ e.res) :
    (slotTaken e rest s).res q = s.res q := by
  rw [State.res, slotTaken_rm]
  exact (setRes_res_other (s.setRm _) e.res q _ h).trans (by cases q <;> rfl)

theorem slotTaken_stuck (e : Entry) (rest : List Entry) (s : State) :
    (slotTaken e rest s).rm.stuck = (s.rm.stuck && e.res != .split) := by
  rw [slotTaken_rm]
  obtain ⟨r, -, -⟩ := e
  cases r <;> rfl

/-- A part at rest with a shift in flight is at rest when that shift has taken the slot again in PREPARE. -/
theorem slotTaken_atRest {sh : Shift} {b : Bool} {rest : List Entry} (h : AtRest s) (hs : s.rm.shift = some sh) {u : State}
    (hm : u.mc = s.mc) (hf : u.fc.lockdown = s.fc.lockdown) (hp : u.ps.validated = s.ps.validated) (hr : u.cp.resync = false)
    (hq : ∀ q, u.res q = s.res q) (hk : u.rm.stuck = s.rm.stuck) : AtRest (slotTaken ⟨sh.res, sh.op, b⟩ rest u) := by
  obtain ⟨hpump, hsplit, hdrift, -⟩ := h
  have shift : (slotTaken ⟨sh.res, sh.op, b⟩ rest u).rm.shift = some ⟨sh.res, sh.op, .prepare, u.par.prepTimeout * 1000⟩ :=
    slotTaken_shift
  have mc := slotTaken_mc ⟨sh.res, sh.op, b⟩ rest u
  have conf (q : Res) : ((slotTaken ⟨sh.res, sh.op, b⟩ rest u).res q).conf = (s.res q).conf := by rw [slotTaken_conf, hq]
  have cmd (q : Res) : ((slotTaken ⟨sh.res, sh.op, b⟩ rest u).res q).cmd = (s.res q).cmd := by rw [slotTaken_cmd, hq]
  have other (q : Res) (k : q ≠ sh.res) : (slotTaken ⟨sh.res, sh.op, b⟩ rest u).res q = s.res q := by
    rw [slotTaken_watch _ _ _ q k, hq]
  have own : (slotTaken ⟨sh.res, sh.op, b⟩ rest u).res sh.res = { u.res sh.res with driftTimer := none, driftArmed := true } :=
    slotTaken_res (e := ⟨sh.res, sh.op, b⟩)
  have stuck := slotTaken_stuck ⟨sh.res, sh.op, b⟩ rest u
  have orders := slotTaken_orders u ⟨sh.res, sh.op, b⟩ rest
  have kept := slotTaken_kept ⟨sh.res, sh.op, b⟩ rest u
  have fc : (slotTaken ⟨sh.res, sh.op, b⟩ rest u).fc.lockdown = s.fc.lockdown := by rw [orders.fc, hf]
  have resync : (slotTaken ⟨sh.res, sh.op, b⟩ rest u).cp.resync = false := by rw [orders.cp, hr]
  have valid : (slotTaken ⟨sh.res, sh.op, b⟩ rest u).ps.validated = s.ps.validated := by rw [kept.ps, hp]
  generalize slotTaken ⟨sh.res, sh.op, b⟩ rest u = y at *
  rw [hm] at mc
  have shiftOf (q : Res) : y.rm.shiftOf q = s.rm.shiftOf q := by simp [RM.shiftOf, shift, hs]
  have inFlight : s.rm.shiftOf sh.res = true := by simp [RM.shiftOf, hs]
  have split : y.rm.split.conf = s.rm.split.conf := conf .split
  have ptor : y.rm.ptor.conf = s.rm.ptor.conf := conf .ptor
  have mcs : ∃ a b, y.mc = { s.mc with splitTimer := a, splitReported := b } := by
    rw [mc]; split
    · exact ⟨_, _, rfl⟩
    · exact ⟨_, _, rfl⟩
  refine ⟨fun hd => ?_, fun hd => ?_, fun hv q hq => ?_, fun k => by rw [resync] at k; cases k⟩
  · obtain ⟨a, b, e⟩ := mcs
    have pos : y.mc.splitPos = s.mc.splitPos := by rw [e]; rfl
    have mode : y.modeOf = s.modeOf := by simp only [State.modeOf, fc, pos, shiftOf, shift, hs, split, ptor]
    have stationary : y.stationary = s.stationary := by simp only [State.stationary, e, split, shiftOf]
    have rolling : y.rolling = s.rolling := by simp only [State.rolling, e, split, ptor, shiftOf]
    rw [mode, stationary, rolling, e]
    rw [e] at hd
    exact hpump hd
  · by_cases k : sh.res = .split
    · have none : y.splitCondition = false := by
        rw [k] at inFlight
        simp [State.splitCondition, shiftOf, inFlight]
      rw [if_pos k] at mc
      rw [none, mc]
      simp
    · rw [if_neg k] at mc
      have same : y.splitCondition = s.splitCondition := by
        have stuck : y.rm.stuck = s.rm.stuck := by rw [stuck, hk]; simp [k]
        simp only [State.splitCondition, mc, shiftOf, stuck]
      rw [same, mc]
      rw [mc] at hd
      exact hsplit hd
  · by_cases k : q = sh.res
    · subst k
      have none : y.driftCondition sh.res = false := by simp [State.driftCondition, shiftOf, inFlight]
      rw [none, own]
      simp
    · have same : y.driftCondition q = s.driftCondition q := by
        have stuck : q = .split → y.rm.stuck = s.rm.stuck := fun e => by
          subst e
          rw [stuck, hk]
          simp [Ne.symm k]
        by_cases e : q = .split
        · simp only [State.driftCondition, shiftOf, conf, cmd, stuck e]
        · have e : (q != .split) = true := by simpa using e
          simp only [State.driftCondition, shiftOf, conf, cmd, e, Bool.true_or]
      rw [same, other q k]
      exact hdrift (valid ▸ hv) q hq

/-- R37: the preconditions read the inputs, the engine's speed and the positions and commands of SPLIT and PTOR. -/
theorem preconditions_congr {t : State} {r : Res} (k : Kept s t) (hc : ∀ q, (t.res q).conf = (s.res q).conf)
    (hd : ∀ q, q ≠ r → (t.res q).cmd = (s.res q).cmd) (op : ShiftOp) : t.preconditions r op = s.preconditions r op := by
  have c1 : t.rm.split.conf = s.rm.split.conf := hc .split
  have c2 : t.rm.ptor.conf = s.rm.ptor.conf := hc .ptor
  have d1 (h : Res.split ≠ r) : t.rm.split.cmd = s.rm.split.cmd := hd .split h
  have d2 (h : Res.ptor ≠ r) : t.rm.ptor.cmd = s.rm.ptor.cmd := hd .ptor h
  cases r
  case split => cases op <;> simp only [State.preconditions, k.pcu, k.par, k.accepted, k.still, c2, d2 (by decide)]
  case ptor => cases op <;> simp only [State.preconditions, k.pcu, k.par, k.accepted, k.still, c1, d1 (by decide)]
  case ptoa => cases op <;> simp only [State.preconditions, k.pcu, k.par, k.accepted, k.still]
  case ptob => cases op <;> simp only [State.preconditions, k.pcu, k.par, k.accepted, k.still]

/-- R55, R183, R184: a shift in PREPARE whose preconditions do not hold takes the slot again as RESYNC completes. -/
theorem resync_returns {sh : Shift} (h : Serving s) (hr : AtRest s) (hl : s.fc.lockdown = false) (ho : s.ps.op = none)
    (ha : s.pe.apply = none) (hs : s.rm.shift = some sh) (hg : sh.stage = .prepare)
    (hp : s.preconditions sh.res sh.op = false) (hc : (s.res sh.res).conf = s.input sh.res)
    (hpath : s.rm.pumpPath = s.rm.pathEngaged) : ∃ t, exec .resync s = .next t
      ∧ t.rm.shift = some ⟨sh.res, sh.op, .prepare, s.par.prepTimeout * 1000⟩ ∧ t.rm.queue = s.rm.queue
      ∧ t.cp.resync = false ∧ t.cp.flags.resyncDone = true ∧ t.rm.closed = false
      ∧ (∀ i r, (s.dt.slot i).record = some r → r.state ≠ .queued →
          (t.dt.slot i).record = some { r with changed := true }) := by
  have returned : returnShift (resyncAccepted s) = (resyncAccepted s).setRm { (resyncAccepted s).rm with
      queue := ⟨sh.res, sh.op, true⟩ :: (resyncAccepted s).rm.queue, shift := none } := by
    have conf : ((resyncAccepted s).res sh.res).conf = (resyncAccepted s).input sh.res := by
      have res : (resyncAccepted s).res sh.res = s.res sh.res := by cases sh.res <;> rfl
      rw [res, hc]
      exact (input_of_mc sh.res rfl rfl).symm
    exact returnShift_prepare hs hg conf hpath
  let x : State := (resyncAccepted s).setRm { (resyncAccepted s).rm with
      queue := ⟨sh.res, sh.op, true⟩ :: (resyncAccepted s).rm.queue, shift := none }
  obtain ⟨ends, -⟩ := endEvent_completes (u := x) (endTransaction s) s.dt.slots rfl rfl
  obtain ⟨m, e, opened⟩ := completeResync_opens s.dt.slots x
  have mres (q : Res) : m.res q = s.res q := by
    rw [State.res, opened.rm]
    cases q <;> rfl
  have took := startHead_takes (s := m) (e := ⟨sh.res, sh.op, true⟩) (rest := s.rm.queue) (by rw [opened.rm]; rfl)
    (by rw [opened.rm]; rfl) (by rw [opened.fc]; exact hl) (by rw [opened.rm])
  have waits : tryActuate (slotTaken ⟨sh.res, sh.op, true⟩ s.rm.queue m) = slotTaken ⟨sh.res, sh.op, true⟩ s.rm.queue m := by
    refine tryActuate_waits slotTaken_shift ?_
    have kept : Kept x (slotTaken ⟨sh.res, sh.op, true⟩ s.rm.queue m) := opened.kept.trans (slotTaken_kept _ _ m)
    have xres (q : Res) : x.res q = s.res q := by cases q <;> rfl
    have same := preconditions_congr kept (fun q => by rw [slotTaken_conf, mres, xres]) (fun q _ => by rw [slotTaken_cmd, mres, xres])
      sh.op (r := sh.res)
    exact same.trans hp
  have rest : AtRest (slotTaken ⟨sh.res, sh.op, true⟩ s.rm.queue m) :=
    slotTaken_atRest hr hs opened.mc (by rw [opened.fc]; rfl) (by rw [opened.kept.ps]; rfl) opened.resync mres (by rw [opened.rm]; rfl)
  rw [took, waits] at e
  have run := resync_accepted h hl ho ha
  rw [returned] at run
  have fin : finish (endTransaction s) x = markChanged s.dt.slots (slotTaken ⟨sh.res, sh.op, true⟩ s.rm.queue m) := by
    unfold finish
    refine (ends.trans (by rw [e])).trans (endEvent_atRest _ rest ?_)
    rw [slotTaken_conf, mres]; rfl
  have fin : finish (endTransaction s) ((resyncAccepted s).setRm { (resyncAccepted s).rm with
      queue := ⟨sh.res, sh.op, true⟩ :: (resyncAccepted s).rm.queue, shift := none }) = _ := fin
  rw [fin] at run
  have o := slotTaken_orders m ⟨sh.res, sh.op, true⟩ s.rm.queue
  refine ⟨_, run, ?_, ?_, ?_, ?_, ?_, fun i r hx hq => ?_⟩
  · exact (congrArg RM.shift (markChanged_rm _ _)).trans (slotTaken_shift.trans (by rw [opened.kept.par]; rfl))
  · exact (congrArg RM.queue (markChanged_rm _ _)).trans slotTaken_queue
  · exact (markChanged_resync _ _).trans ((congrArg CP.resync o.cp).trans opened.resync)
  · have flags : (markChanged s.dt.slots (slotTaken ⟨sh.res, sh.op, true⟩ s.rm.queue m)).cp.flags.resyncDone = true := by
      rw [markChanged_flags, o.cp, opened.flags]
    exact flags
  · exact (congrArg RM.closed (markChanged_rm _ _)).trans (o.closed.trans (by rw [opened.rm]))
  · have taken : ((slotTaken ⟨sh.res, sh.op, true⟩ s.rm.queue m).dt.slot i).record = some r.mark := by
      have mx : (m.dt.slot i).record = some r.mark := by
        rw [opened.record]
        exact congrArg (Option.map Rec.mark) hx
      have state : r.mark.state ≠ .queued := hq
      rw [slotTaken_record, mx, Option.map_some]
      simp [state]
    obtain ⟨r', hr', marked⟩ := (markChanged_records _ s.dt.slots).forward taken
    obtain rfl : r' = r.mark := by
      obtain k | k := marked
      · exact k
      · exact k
    exact hr'

end
end Sys2Proof.Machine
end

section
/-! SUPPORT for O10. The event in which a waiting RESYNC's shift is DONE or fails (R183, R184): what stands at its end. -/
namespace Sys2Proof.Machine

/-! ## Records that an event leaves as they were -/

/-- What the end of a shift may have done to a record: a DISCHARGE is told of the pump path, a holder is served, a pump record gains
CRITICAL, or the record is FORFEIT. -/
def Rec.Early (q : Res) (r y : Rec) : Prop :=
  y.demand = r.demand
    ∧ (r.isDischarge = true ∨ y.isForfeit = true ∨ (y.state = r.state ∧ y.reasons = r.reasons)
      ∨ (r.holds q = true ∧ ∃ m, y.state = serviceState m r ∧ y.reasons = r.reasons)
      ∨ (y.state = .held ∧ y.reasons = r.reasons.set .critical true))

theorem watched_eq_iff {r y : Rec} (hd : y.demand = r.demand) :
    y.watched = r.watched ↔ y.state = r.state ∧ y.reasons = r.reasons := by
  simp [Rec.watched, hd]

theorem isForfeit_congr {r y : Rec} (h : y.state = r.state) : y.isForfeit = r.isForfeit := by simp [Rec.isForfeit, h]

/-- A record that ends the event as it began it stood so where RESYNC completed: what the shift's end has done to it nothing later
undoes. -/
theorem restored_stood {q : Res} {r y z : Rec} (h : r.Early q y) (c : y.Course z) (k : y.Later z) (hs : z.state = r.state)
    (hr : z.reasons = r.reasons) (hf : r.isForfeit = false) (hq : r.holds q = false ∨ r.state = .held) : y.watched = r.watched := by
  obtain ⟨demand, h⟩ := h
  have discharge : y.isDischarge = r.isDischarge := by simp [Rec.isDischarge, demand]
  have zf : z.isForfeit = false := by rw [isForfeit_congr hs, hf]
  have yf : ¬y.isForfeit = true := fun x => by rw [c.isForfeit x] at zf; cases zf
  rw [watched_eq_iff demand]
  obtain k | ⟨re, st | ⟨yq, yd, ze⟩⟩ | ⟨yd, cr, zh⟩ := k
  · rw [zf] at k; cases k
  · exact ⟨st.symm.trans hs, re.symm.trans hr⟩
  · have engaging : r.state = .engaging := hs.symm.trans ze
    obtain d | f | ⟨st, -⟩ | ⟨holds, -⟩ | ⟨st, -⟩ := h
    · rw [discharge, d] at yd; cases yd
    · exact absurd f yf
    · rw [yq, engaging] at st; cases st
    · obtain hq | hq := hq
      · rw [holds] at hq; cases hq
      · rw [engaging] at hq; cases hq
    · rw [yq] at st; cases st
  · have held : r.state = .held := hs.symm.trans zh
    have critical : r.reasons.critical = true := by rw [← hr]; exact cr
    obtain d | f | same | ⟨-, m, st, re⟩ | ⟨st, re⟩ := h
    · rw [discharge, d] at yd; cases yd
    · exact absurd f yf
    · exact same
    · refine ⟨st.trans ?_, re⟩
      simp [serviceState, Reasons.isNone, critical, held]
    · refine ⟨st.trans held.symm, re.trans ?_⟩
      simp [Reasons.set, ← critical]

theorem trySettle_dt (s : State) : (trySettle s).dt = s.dt := by
  unfold trySettle
  split
  · split <;> rfl
  · rfl

theorem tryActuate_dt (s : State) : (tryActuate s).dt = s.dt := by
  unfold tryActuate
  split
  · split
    · exact trySettle_dt _
    · rfl
  · rfl

/-- A record from the moment at which the head entry is looked at: a QUEUED holder may become ENGAGING (R22, R36). -/
theorem startHead_later (m : State) : Moves (fun r r' => r.Course r' ∧ r.Later r') m (startHead m) := by
  obtain e | ⟨e, rest, -, -, -, -, took⟩ := startHead_cases m
  · rw [e]
    exact tail_of_dt _ _ rfl
  · refine .of_map (f := fun r => if e.op = .engage ∧ (r.holds e.res && r.state == .queued) = true then
      { r with state := .engaging } else r) (fun i => ?_) fun r => ?_
    · rw [took, tryActuate_dt, slotTaken_record]
    · split
      · rename_i h
        obtain ⟨-, h⟩ := h
        obtain ⟨holds, queued⟩ : r.holds e.res = true ∧ r.state = .queued := by simpa using h
        refine ⟨⟨rfl, rfl, rfl, fun f => ?_⟩, .inr (.inl ⟨rfl, .inr ⟨queued, not_discharge_of_holds holds, rfl⟩⟩)⟩
        rw [Rec.isForfeit, queued] at f
        cases f
      · exact ⟨.refl r, .refl r⟩

section
variable {s u m p t f : State} {r : Res}

/-- A record from RESYNC's completion to the end of the event. -/
theorem Completes.later (h : Completes s u m p t) {i : Nat} {z : Rec} (hz : (t.dt.slot i).record = some z) :
    ∃ y z', (u.dt.slot i).record = some y ∧ y.mark.Course z' ∧ y.mark.Later z' ∧ (z = z' ∨ z = z'.mark) := by
  obtain ⟨-, -, -, opened, tail, rfl⟩ := h
  obtain ⟨z', hp, marked⟩ := (markChanged_records p s.dt.slots).back hz
  obtain ⟨y', hy, c, l⟩ := tail.later.back hp
  obtain ⟨y, hm, c', l'⟩ := (startHead_later m).back hy
  rw [opened.record] at hm
  obtain ⟨x, hx, rfl⟩ := Option.map_eq_some_iff.1 hm
  exact ⟨x, z', hx, c'.trans c, .trans ⟨c', l'⟩ ⟨c, l⟩, marked⟩

/-- R184 step 3: what the shift's end has left as it was at the event's beginning raises DEMAND_CHANGED. -/
theorem Completes.raises (h : Completes s u m p t) (sh : Shift) (early : Moves (Rec.Early sh.res) s u) : Raises sh s u t := by
  intro i x hx _ hq hz
  obtain ⟨y, z', hy, c, l, e⟩ := h.later hz
  obtain ⟨x', hx', ear⟩ := early.back hy
  obtain ⟨x'', hx'', cs⟩ := h.work.records.back hy
  rw [hx] at hx' hx''
  obtain rfl := Option.some.inj hx'
  obtain rfl := Option.some.inj hx''
  have state : z'.state = x.state := by
    obtain e | e := e
    · rw [← e]
    · exact (congrArg Rec.state e).symm
  have reasons : z'.reasons = x.reasons := by
    obtain e | e := e
    · rw [← e]
    · exact (congrArg Rec.reasons e).symm
  refine ⟨y, hy, ?_⟩
  cases hf : x.isForfeit
  · exact restored_stood ear (y := y.mark) ⟨c.changed, c.kind, c.resource, c.forfeit⟩ l state reasons hf hq
  · obtain rfl | rfl := cs.forfeit hf
    · rfl
    · have stood : (x.forfeited .lockdown).state = x.state ∧ (x.forfeited .lockdown).reasons = x.reasons := by
        obtain rfl | rfl := c.forfeit rfl
        · exact ⟨state, reasons⟩
        · exact ⟨state, reasons⟩
      exact (watched_eq_iff (r := x) (y := x.forfeited .lockdown) rfl).2 stood

end
end Sys2Proof.Machine
end

section
/-! SUPPORT for O10. What a shift's end leaves while RESYNC waits: the closed slot keeps the queue, behind which the re-evaluation of
the shift's resource appends (R35, R55). -/
namespace Sys2Proof.Machine

/-- R35: the entry that the re-evaluation of a resource appends. -/
def nextOrders (r : Res) (x : ResRec) : List Entry :=
  if 0 < x.holders ∧ x.cut = false then (if x.cmd then [] else [⟨r, .engage, false⟩])
  else if x.cmd then [⟨r, .disengage, false⟩] else []

section
variable {s u m p t f y : State} {r : Res} {sh : Shift}

theorem nextOrders_congr {x y : ResRec} (hc : x.cmd = y.cmd) (hh : x.holders = y.holders) (hu : x.cut = y.cut) :
    nextOrders r x = nextOrders r y := by simp [nextOrders, hc, hh, hu]

theorem appendEntry_closed (op : ShiftOp) (hl : f.fc.lockdown = false) (hc : f.rm.closed = true) :
    appendEntry r op f = f.setRm { f.rm with queue := f.rm.queue ++ [⟨r, op, false⟩] } := by
  unfold appendEntry
  rw [if_neg (by simp [hl])]
  exact startHead_stands (.inr (.inr hc))

theorem reevaluate_closed (hc : f.rm.closed = true) (he : f.rm.entry r = none) (hl : f.fc.lockdown = false) :
    reevaluate r f = f.setRm { f.rm with queue := f.rm.queue ++ nextOrders r (f.res r) } := by
  have stands : f = f.setRm { f.rm with queue := f.rm.queue ++ [] } := by rw [List.append_nil]; rfl
  by_cases hw : 0 < (f.res r).holders ∧ (f.res r).cut = false
  · have wanted : f.wanted r = true := by simp [State.wanted, hl, hw]
    cases cmd : (f.res r).cmd
    · rw [reevaluate_engages hl he wanted cmd, appendEntry_closed _ hl hc]
      simp [nextOrders, hw, cmd]
    · rw [reevaluate_settled (by rw [wanted, cmd])]
      simpa [nextOrders, hw, cmd] using stands
  · have wanted : f.wanted r = false := by
      rw [Bool.eq_false_iff]
      intro k
      simp only [State.wanted, Bool.and_eq_true, decide_eq_true_eq, Bool.not_eq_true'] at k
      exact hw k.1
    cases cmd : (f.res r).cmd
    · rw [reevaluate_settled (by rw [wanted, cmd])]
      simpa [nextOrders, hw, cmd] using stands
    · rw [reevaluate_disengages hl he wanted cmd, appendEntry_closed _ hl hc]
      simp [nextOrders, hw, cmd]

theorem afterShift_closed (hc : f.rm.closed = true) (he : f.rm.entry r = none) (hl : f.fc.lockdown = false) :
    afterShift r f = (checkPumpPath f).setRm { (checkPumpPath f).rm with queue := f.rm.queue ++ nextOrders r (f.res r) } := by
  have entry : (checkPumpPath f).rm.entry r = none := by simpa [RM.entry] using he
  have next := reevaluate_closed (r := r) (f := checkPumpPath f) (by simpa using hc) entry (by simpa using hl)
  unfold afterShift
  rw [next, checkPumpPath_res, checkPumpPath_queue]
  exact startHead_stands (.inr (.inr (by simpa using hc)))

theorem afterShift_lockdown (hl : f.fc.lockdown = true) : afterShift r f = checkPumpPath f := by
  have stands : reevaluate r (checkPumpPath f) = checkPumpPath f := by simp [reevaluate, hl]
  have head : startHead (checkPumpPath f) = checkPumpPath f := by
    obtain e | ⟨e, rest, -, -, k, -⟩ := startHead_cases (checkPumpPath f)
    · exact e
    · rw [checkPumpPath_fc, hl] at k; cases k
  unfold afterShift
  rw [stands, head]

/-- A shift has left the slot while RESYNC waits: its reports are made and the queue stands. -/
structure Leaves (sh : Shift) (s f : State) : Prop where
  course : Course s f
  kept : Kept s f
  early : Moves (Rec.Early sh.res) s f
  shift : f.rm.shift = none
  conf : (f.res sh.res).conf = s.input sh.res
  queue : f.fc.lockdown = false → f.rm.queue = s.rm.queue
  mode : f.fc.lockdown = false → f.mc.mode = s.mc.mode

theorem Rec.Early.told {q : Res} {r y : Rec} (h : r.Early q y) (n : RM) (b : Bool) : r.Early q (y.toldPath n b) := by
  obtain ⟨demand, h⟩ := h
  have same := (withReason_reported n .noPump (!b) Rec.isDischarge y).1
  have discharge : y.isDischarge = r.isDischarge := by simp [Rec.isDischarge, demand]
  refine ⟨same.trans demand, ?_⟩
  cases d : r.isDischarge
  · rw [toldPath_stands n b (.inr (discharge.trans d))]
    rwa [d] at h
  · exact .inl rfl

theorem entry_none {q : List Entry} (h : ∀ e ∈ q, e.res ≠ r) (hf : f.rm.queue = q) : f.rm.entry r = none := by
  rw [RM.entry, hf, List.find?_eq_none]
  intro e he
  simpa using h e he

/-- What follows the reports of the shift that RESYNC has waited for. -/
theorem Leaves.after (h : Leaves sh s f) (hc : s.rm.closed = true) (hq : ∀ e ∈ s.rm.queue, e.res ≠ sh.res) :
    let u := afterShift sh.res f
    Course s u ∧ Kept s u ∧ Moves (Rec.Early sh.res) s u ∧ u.rm.shift = none ∧ (∀ q, u.res q = f.res q) ∧ u.mc = f.mc
      ∧ u.fc = f.fc ∧ u.dt = (checkPumpPath f).dt ∧ (u.fc.lockdown = false → u.rm.queue = s.rm.queue ++ nextOrders sh.res (f.res sh.res)) := by
  have work : Course s (afterShift sh.res f) := h.course.trans (afterShift_orders f sh.res).course
  have kept : Kept s (afterShift sh.res f) := by
    refine h.kept.trans ?_
    exact ((checkPumpPath_kept _).trans (reevaluate_kept _ _)).trans (startHead_kept _)
  have early : Moves (Rec.Early sh.res) s (checkPumpPath f) := h.early.trans (checkPumpPath_records f) fun a b c k e => by
    obtain rfl | ⟨x, rfl⟩ := e
    · exact k
    · exact k.told _ _
  have closed : f.rm.closed = true := h.course.closed.trans hc
  refine ⟨work, kept, ?_⟩
  cases hl : f.fc.lockdown
  · rw [afterShift_closed closed (entry_none hq (h.queue hl)) hl]
    refine ⟨early, by simpa using h.shift, fun q => ?_, by simp, by simp, rfl, fun _ => by rw [h.queue hl]; rfl⟩
    have queued : ((checkPumpPath f).setRm { (checkPumpPath f).rm with
        queue := f.rm.queue ++ nextOrders sh.res (f.res sh.res) }).res q = (checkPumpPath f).res q := by cases q <;> rfl
    rw [queued, checkPumpPath_res]
  · rw [afterShift_lockdown hl]
    refine ⟨early, by simpa using h.shift, fun q => by simp, by simp, by simp, rfl, fun k => ?_⟩
    rw [checkPumpPath_fc, hl] at k
    cases k

end
end Sys2Proof.Machine
end

section
/-! SUPPORT for O10. The opened slot at the end of the event in which RESYNC has completed (R36 to R39, R184 step 6). -/
namespace Sys2Proof.Machine

section
variable {s u m p t f y z : State} {r q : Res} {sh : Shift} {op : ShiftOp} {n : Nat}

/-! ## The head entry passes on -/

theorem trySettle_res (s : State) (q : Res) : (trySettle s).res q = s.res q := by
  unfold trySettle
  split
  · split
    · cases q <;> rfl
    · rfl
  · rfl

/-- R38, R39: a shift whose preconditions hold drives its output, and enters SETTLE where its confirm input is there already. -/
theorem tryActuate_drives (hs : z.rm.shift = some ⟨r, op, .prepare, n⟩) (hp : z.preconditions r op = true) :
    ((tryActuate z).res r).cmd = (op == .engage)
      ∧ (z.input r ≠ op.target → (tryActuate z).rm.shift = some ⟨r, op, .actuate, z.par.confirmTime⟩)
      ∧ (z.input r = op.target → (tryActuate z).rm.shift = some ⟨r, op, .settle, z.par.settleTime⟩) := by
  let x : State := (z.setRes r { z.res r with cmd := op == .engage }).setRm
    { (z.setRes r { z.res r with cmd := op == .engage }).rm with shift := some ⟨r, op, .actuate, z.par.confirmTime⟩ }
  have actuates : tryActuate z = trySettle x := by simp [tryActuate, hs, hp, x]
  have input : x.input r = z.input r := input_of_mc r rfl rfl
  have shift : x.rm.shift = some ⟨r, op, .actuate, z.par.confirmTime⟩ := rfl
  have par : x.par = z.par := rfl
  have res : x.res r = { z.res r with cmd := op == .engage } := by
    have same : x.res r = (z.setRes r { z.res r with cmd := op == .engage }).res r := by cases r <;> rfl
    rw [same, setRes_res_same]
  rw [actuates, trySettle_res, res]
  refine ⟨rfl, fun k => ?_, fun k => ?_⟩
  · rw [← input] at k
    have stays : trySettle x = x := by simp [trySettle, shift, k]
    rw [stays, shift]
  · rw [← input] at k
    simp [trySettle, shift, k, par]

theorem tryActuate_cmd_other {sh : Shift} (hs : z.rm.shift = some sh) (h : q ≠ sh.res) :
    ((tryActuate z).res q).cmd = (z.res q).cmd := by
  unfold tryActuate
  rw [hs]
  dsimp only
  split
  · rw [trySettle_res]
    have other := setRes_res_other z sh.res q { z.res sh.res with cmd := sh.op == .engage } h
    refine Eq.trans ?_ (congrArg ResRec.cmd other)
    cases q <;> rfl
  · rfl

/-- What R36 to R39 leave of the slot and the queue at the end of an event whose queue was `q` as the slot opened. -/
def Reopened (s t : State) (q : List Entry) : Prop := match q with
  | [] => t.rm.shift = none ∧ t.rm.queue = []
  | e :: rest => t.rm.queue = rest
      ∧ (e.op = .engage → ∀ i r, (t.dt.slot i).record = some r → r.holds e.res = true → r.state ≠ .queued)
      ∧ (t.preconditions e.res e.op = false → t.rm.shift = some ⟨e.res, e.op, .prepare, s.par.prepTimeout * 1000⟩)
      ∧ (t.preconditions e.res e.op = true →
          let new : Pos := if e.op = .engage then .engaged else .disengaged
          (t.res e.res).cmd = (e.op == .engage)
          ∧ (s.input e.res ≠ new → t.rm.shift = some ⟨e.res, e.op, .actuate, s.par.confirmTime⟩)
          ∧ (s.input e.res = new → t.rm.shift = some ⟨e.res, e.op, .settle, s.par.settleTime⟩))

theorem target_eq (op : ShiftOp) : op.target = if op = .engage then .engaged else .disengaged := by cases op <;> rfl

/-- R22, R36: where an ENGAGE has taken the slot no holder is QUEUED, and none is again before the event ends. -/
theorem Completes.engaging (h : Completes s u m p t) {e : Entry} {rest : List Entry}
    (took : startHead m = tryActuate (slotTaken e rest m)) (he : e.op = .engage) {i : Nat} {r : Rec}
    (hr : (t.dt.slot i).record = some r) (hh : r.holds e.res = true) : r.state ≠ .queued := by
  obtain ⟨-, -, -, -, tail, rfl⟩ := h
  intro queued
  obtain ⟨z, hz, marked⟩ := (markChanged_records p s.dt.slots).back hr
  obtain ⟨y, hy, c, l⟩ := tail.later.back hz
  have zq : z.state = .queued ∧ z.demand.resource = some e.res := by
    have resource := resource_of_holds hh
    obtain rfl | rfl := marked
    · exact ⟨queued, resource⟩
    · exact ⟨queued, resource⟩
  have yq : y.state = .queued := by
    obtain k | ⟨-, k | ⟨-, -, k⟩⟩ | ⟨-, -, k⟩ := l
    · rw [Rec.isForfeit, zq.1] at k; cases k
    · exact k.symm.trans zq.1
    · rw [zq.1] at k; cases k
    · rw [zq.1] at k; cases k
  have yh : y.holds e.res = true := by
    have resource : y.demand.resource = some e.res := c.resource.symm.trans zq.2
    simp [Rec.holds, resource, Rec.isForfeit, yq]
  rw [took, tryActuate_dt, slotTaken_record] at hy
  obtain ⟨x, -, rfl⟩ := Option.map_eq_some_iff.1 hy
  split at yq
  · cases yq
  · rename_i no
    rw [if_neg no] at yh
    exact no ⟨he, by simp [yh, yq]⟩

/-- The slot and the queue at the end of the event, where it does not end in lockdown. -/
theorem Completes.reopened (h : Completes s u m p t) (ends : EndsOpen (startHead m) t) (close : Kept (startHead m) t)
    (work : Kept s u) (shift : u.rm.shift = none) (hl : u.fc.lockdown = false) : Reopened s t u.rm.queue := by
  have mshift : m.rm.shift = none := by rw [h.opened.rm]; exact shift
  have mqueue : m.rm.queue = u.rm.queue := by rw [h.opened.rm]
  have mclosed : m.rm.closed = false := by rw [h.opened.rm]
  have mlock : m.fc.lockdown = false := by rw [h.opened.fc]; exact hl
  unfold Reopened
  split
  · rename_i none
    rw [none] at mqueue
    rw [core_shift ends.core, core_queue ends.core, startHead_stands (.inr (.inl mqueue))]
    exact ⟨mshift, mqueue⟩
  · rename_i e rest some
    have took := startHead_takes mshift (mqueue.trans some) mlock mclosed
    have line := tryActuate_line (slotTaken e rest m)
    have zshift : (slotTaken e rest m).rm.shift = _ := slotTaken_shift
    have zkept : Kept s (slotTaken e rest m) := (work.trans h.opened.kept).trans (slotTaken_kept _ _ m)
    have zpar : m.par = s.par := (work.trans h.opened.kept).par
    rw [zpar] at zshift
    have same : t.preconditions e.res e.op = (slotTaken e rest m).preconditions e.res e.op := by
      have start : Kept (slotTaken e rest m) t := by
        rw [took] at close
        exact (tryActuate_kept _).trans close
      refine preconditions_congr start (fun q => ?_) (fun q hq => ?_) e.op
      · rw [core_conf ends.core, took, line.conf]
      · rw [core_cmd ends.core, took, tryActuate_cmd_other zshift hq]
    rw [same, core_queue ends.core, core_shift ends.core, core_cmd ends.core, took]
    refine ⟨line.queue.trans slotTaken_queue, fun he i r hr hh => h.engaging took he hr hh, fun hp => ?_, fun hp => ?_⟩
    · rw [tryActuate_waits zshift hp, zshift]
    · obtain ⟨cmd, actuate, settle⟩ := tryActuate_drives zshift hp
      have input : (slotTaken e rest m).input e.res = s.input e.res := input_of_kept zkept _
      rw [input, target_eq, zkept.par] at actuate settle
      exact ⟨cmd, actuate, settle⟩

end
end Sys2Proof.Machine
end

section
/-! SUPPORT for O10. The event in which the shift RESYNC waits for has left the slot (R183, R184). -/
namespace Sys2Proof.Machine

section
variable {s u m p t f y : State} {sh : Shift}

/-- R67: MODE_CHANGED is set at the end of an event exactly where the mode has changed, lockdown apart. -/
theorem endEvent_modeChanged (s0 : State) (b : List Slot) (hr : y.cp.resync = false) (hm : y.cp.flags.modeChanged = false)
    (hl : (endEvent s0 b y).fc.lockdown = y.fc.lockdown) :
    (endEvent s0 b y).cp.flags.modeChanged = true ↔ (endEvent s0 b y).mc.mode ≠ y.mc.mode := by
  obtain ⟨v, w, hv, hw, -, e⟩ := endEvent_parts s0 b hr
  have led : Leads y v := hv ▸ suspensions_lead
  have mc : v.mc = y.mc := by rw [hv]; split <;> simp
  have cp : v.cp = y.cp := by rw [hv]; split <;> simp
  obtain ⟨m, a, c, e', -⟩ := positionWatches_eq w
  have pos : (positionWatches w).mc.mode = w.mc.mode ∧ (positionWatches w).cp = w.cp ∧ (positionWatches w).fc = w.fc := by
    rw [e']; exact ⟨rfl, rfl, rfl⟩
  obtain ⟨pmode, pcp, pfc⟩ := pos
  rw [e, markChanged_fc, pfc] at hl
  have flag : (endEvent s0 b y).cp.flags.modeChanged = w.cp.flags.modeChanged := by rw [e, markChanged_flags, pcp]
  have mode : (endEvent s0 b y).mc.mode = w.mc.mode := by rw [e, markChanged_mc, pmode]
  rw [flag, mode]
  split at hw
  · subst hw
    obtain q | l := deriveAndWatch_ends v
    · rw [q.flags, q.mode, deriveMode_flags, deriveMode_mode, mc, cp, hm]
      simp
    · have before := l.before
      rw [deriveMode_fc, led.fc, ← hl, l.lockdown] at before
      cases before
  · subst hw
    rw [cp, hm, mc]
    simp

/-- The event's end, in which RESYNC completes first. -/
theorem Leaves.completes (h : Leaves sh s f) (w : ResyncWaits s) (hr : s.cp.resync = true) (hq : ∀ e ∈ s.rm.queue, e.res ≠ sh.res) :
    ∃ m p, Completes s (afterShift sh.res f) m p (finish s (afterShift sh.res f))
      ∧ finish s (afterShift sh.res f) = finish s (startHead m) ∧ (startHead m).cp.resync = false := by
  obtain ⟨closed, waits⟩ := w
  obtain ⟨before, apply, -⟩ := waits hr
  obtain ⟨work, -, -, shift, -⟩ := h.after (closed.trans hr) hq
  obtain ⟨ends, idle⟩ := endEvent_completes s s.dt.slots (work.resync.trans hr) shift
  obtain ⟨m, e, opened⟩ := completeResync_opens s.dt.slots (afterShift sh.res f)
  rw [e] at ends idle
  obtain ⟨p, tail, last⟩ := endEvent_tail s s.dt.slots idle
  exact ⟨m, p, ⟨before, apply, work, opened, tail, ends.trans last⟩, ends, idle⟩

/-- R183, R184: what stands at the end of the event. -/
theorem Leaves.ends (h : Leaves sh s f) (w : ResyncWaits s) (hr : s.cp.resync = true) (hq : ∀ e ∈ s.rm.queue, e.res ≠ sh.res) :
    let t := finish s (afterShift sh.res f)
    ResyncCompleted sh s t ∧ (t.res sh.res).conf = s.input sh.res
      ∧ (t.fc.lockdown = false → f.fc.lockdown = false ∧ Reopened s t (s.rm.queue ++ nextOrders sh.res (f.res sh.res))
        ∧ (t.cp.flags.modeChanged = true ↔ t.mc.mode ≠ s.mc.mode)) := by
  obtain ⟨m, p, completes, same, idle⟩ := h.completes w hr hq
  obtain ⟨-, kept, early, shift, res, mc, fc, -, queue⟩ := h.after (w.1.trans hr) hq
  have head := startHead_orders m
  have headKept : Kept s (startHead m) := (kept.trans completes.opened.kept).trans (startHead_kept m)
  have lock : (startHead m).fc.lockdown = f.fc.lockdown := by rw [head.fc, completes.opened.fc, ← fc]
  have conf : ((startHead m).res sh.res).conf = s.input sh.res := by
    have mconf : (m.res sh.res).conf = s.input sh.res := by
      rw [State.res, completes.opened.rm]
      refine Eq.trans ?_ (h.conf.symm ▸ congrArg ResRec.conf (res sh.res))
      cases sh.res <;> rfl
    obtain e | ⟨e, rest, -, -, -, -, took⟩ := startHead_cases m
    · rw [e, mconf]
    · rw [took, (tryActuate_line _).conf, slotTaken_conf, mconf]
  have close : Kept (startHead m) (finish s (startHead m)) := endEvent_kept _ _ _
  refine ⟨completes.completed sh (completes.raises sh early), ?_, fun hl => ?_⟩
  · rw [same]
    obtain o | l := endEvent_ends s s.dt.slots idle
    · exact (core_conf o.core _).trans conf
    · have k := l.conf sh.res
      split at k
      · exact k.trans (input_of_kept headKept _)
      · exact k.trans conf
  · have open' : EndsOpen (startHead m) (finish s (startHead m)) := open_lasts idle (by rw [← same]; exact hl)
    have lockdown : f.fc.lockdown = false := by rw [← lock, ← open'.lockdown, ← same]; exact hl
    have flags : (startHead m).cp.flags.modeChanged = false := by rw [head.cp, completes.opened.flags]
    have mode : (startHead m).mc.mode = s.mc.mode := by rw [head.mode, completes.opened.mc, mc, h.mode lockdown]
    have ulock : (afterShift sh.res f).fc.lockdown = false := by rw [fc, lockdown]
    refine ⟨lockdown, ?_, ?_⟩
    · rw [← queue ulock]
      exact completes.reopened (same ▸ open') (same ▸ close) kept shift ulock
    · rw [same, ← mode]
      exact endEvent_modeChanged s s.dt.slots idle flags open'.lockdown

end
end Sys2Proof.Machine
end

section
/-! SUPPORT for O10. A shift's end in each of its kinds, while RESYNC waits (R41 to R43). -/
namespace Sys2Proof.Machine

section
variable {s f : State} {r : Res} {sh : Shift}

theorem Rec.Early.refl (q : Res) (r : Rec) : r.Early q r := ⟨rfl, .inr (.inr (.inl ⟨rfl, rfl⟩))⟩

/-- R41: an ENGAGE that is DONE. -/
theorem engageReported_leaves (hr : sh.res = r) : Leaves sh s (engageReported r s) := by
  subst hr
  have orders : Orders s (engageReported sh.res s) :=
    ((leaveSlot_orders s sh.res).setRes fun _ => rfl).trans (reportShiftDone_orders _ _)
  have early : Moves (Rec.Early sh.res) s (engageReported sh.res s) := by
    refine .of_map (engageReported_record sh.res s) fun x => ?_
    split
    · rename_i holds
      exact ⟨rfl, .inr (.inr (.inr (.inl ⟨holds, _, rfl, rfl⟩)))⟩
    · exact .refl _ x
  exact ⟨orders.course, engageReported_kept _ _, early, by simp, by rw [engageReported_res, if_pos rfl],
    fun _ => by simp, fun _ => by simp⟩

/-- R41: a DISENGAGE that is DONE. -/
theorem leaveSlot_leaves (hr : sh.res = r) : Leaves sh s (leaveSlot r s) := by
  subst hr
  exact ⟨(leaveSlot_orders s _).course, leaveSlot_kept s _, .of_dt (Rec.Early.refl _) (by simp), by simp, by simp,
    fun _ => by simp, fun _ => by simp⟩

/-- R43: a take-off's DISENGAGE that fails. -/
theorem ptoLost_leaves (hr : sh.res = r) : Leaves sh s (standardFault .ptoLost (some r) (leaveSlot r s)) := by
  have left : Leaves sh s (leaveSlot r s) := leaveSlot_leaves hr
  exact ⟨left.course.trans (standardFault_course ..), left.kept.trans (standardFault_kept ..),
    left.early.trans (.of_dt (P := Eq) (fun _ => rfl) (by simp)) fun _ _ _ a e => e ▸ a, by simp, by simpa using left.conf,
    fun _ => by simp, fun _ => by simp⟩

theorem splitLeft_leaves (hr : sh.res = .split) : Leaves sh s (splitLeft s) := by
  have left : Leaves sh s (leaveSlot .split s) := leaveSlot_leaves hr
  unfold splitLeft
  split
  · exact left
  · have stuck : Orders (leaveSlot .split s) ((leaveSlot .split s).setRm { (leaveSlot .split s).rm with stuck := true }) :=
      Orders.setRm (.refl _)
    refine ⟨left.course.trans stuck.course, left.kept.trans (setRm_kept ..), left.early, left.shift, ?_, left.queue, left.mode⟩
    rw [← left.conf, hr]
    rfl

theorem forfeitHolders_dt (why : ForfeitReason) (he : s.rm.entry r = none) (hs : s.rm.shift = none) (hc : (s.res r).cmd = false) :
    (forfeitHolders r why s).dt = (forfeitRecords r why s).dt := by
  have rm : (forfeitRecords r why s).rm = s.rm := storeTable_rm ..
  have idle := holdersFewer_idle (s := forfeitRecords r why s) (r := r) (s.dt.holdersOf r)
    (by simpa [RM.entry, rm] using he) (by rw [rm, hs]) (by rw [State.res, rm]; exact hc)
  rw [forfeitHolders, idle, setRes_dt]

/-- A critical condition and lockdown, as a shift's end may bring them. -/
theorem Ends.early {q : Res} {t : State} (h : Ends s t) : Moves (Rec.Early q) s t := by
  obtain k | k := h
  · obtain ⟨-, d, -⟩ | ⟨-, -, -, d, -⟩ := k.captured
    · exact .of_dt (Rec.Early.refl q) d
    · refine .of_map (f := Rec.withReason s.rm .critical true Rec.isPump) (fun i => ?_) fun r => ?_
      · rw [d]
        exact slot_map_record _ _ _ i
      · unfold Rec.withReason
        split
        · exact .refl q r
        · refine ⟨rfl, .inr (.inr (.inr (.inr ⟨?_, rfl⟩)))⟩
          simp [service, serviceState, Reasons.set, Reasons.isNone]
  · exact .of_map k.records fun r => ⟨rfl, .inr (.inl rfl)⟩

/-- R43: SPLIT's DISENGAGE that fails. -/
theorem splitStuck_leaves (hr : sh.res = .split) : Leaves sh s (criticalFault .splitStuck (some .split) (splitLeft s)) := by
  have left : Leaves sh s (splitLeft s) := splitLeft_leaves hr
  have ends := criticalFault_ends .splitStuck (some .split) (splitLeft s)
  have dt : (splitLeft s).dt = s.dt := by
    unfold splitLeft
    split
    · exact leaveSlot_dt s _
    · exact leaveSlot_dt s _
  have conf : ((criticalFault .splitStuck (some .split) (splitLeft s)).res sh.res).conf = s.input sh.res := by
    rw [← left.conf]
    obtain q | l := ends
    · rw [State.res, q.rm]; rfl
    · rw [l.conf]; simp [RM.shiftOf, left.shift]
  refine ⟨left.course.trans ends.tail.toCourse, left.kept.trans (criticalFault_kept ..), ?_, ends.shift left.shift, conf,
    fun hl => ?_, fun hl => ?_⟩
  · exact (Moves.of_dt (P := Eq) (fun _ => rfl) dt).trans ends.early fun _ _ _ e a => e ▸ a
  · obtain q | l := ends
    · rw [q.rm]
      exact left.queue (by rw [← q.lockdown]; exact hl)
    · rw [l.lockdown] at hl; cases hl
  · obtain q | l := ends
    · rw [q.mode]
      exact left.mode (by rw [← q.lockdown]; exact hl)
    · rw [l.lockdown] at hl; cases hl

theorem put_queue (m : RM) (q : Res) (x : ResRec) : (m.put q x).queue = m.queue := by cases q <;> rfl

/-- R42: an ENGAGE that fails on its confirm expiry. -/
theorem engageFailed_leaves (hr : sh.res = r) (he : s.rm.entry r = none) (hh : (s.res r).holders = s.dt.holdersOf r) :
    Leaves sh s (engageFailed r .noConfirm .shiftNoConfirm (s.setRes r { s.res r with cmd := false })) := by
  subst hr
  let x : State := s.setRes sh.res { s.res sh.res with cmd := false }
  have xres : x.res sh.res = { s.res sh.res with cmd := false } := setRes_res_same s _ _
  have xentry : x.rm.entry sh.res = none := by
    rw [RM.entry, setRes_queue]
    exact he
  obtain ⟨b, rm, res⟩ := engageFailed_idle (s := x) .noConfirm .shiftNoConfirm xentry (by rw [xres]) (by rw [xres]; exact hh)
  have start : Orders s x := (Orders.refl s).setRes fun k => k
  have orders : Orders s (forfeitHolders sh.res .noConfirm (leaveSlot sh.res x)) := start.trans (forfeitHolders_frame _ x)
  have kept : Kept s (engageFailed sh.res .noConfirm .shiftNoConfirm x) :=
    ((((setRes_kept s _ _).trans (leaveSlot_kept x _)).trans (forfeitHolders_kept _ _ _)).trans (standardFault_kept ..))
  have records (i : Nat) : ((engageFailed sh.res .noConfirm .shiftNoConfirm x).dt.slot i).record =
      (s.dt.slot i).record.map (fun y => if y.holds sh.res then y.forfeited .noConfirm else y) := by
    have leave : (leaveSlot sh.res x).rm.entry sh.res = none := by
      rw [RM.entry, leaveSlot_queue]
      exact xentry
    have dt := forfeitHolders_dt (s := leaveSlot sh.res x) .noConfirm leave (leaveSlot_shift x _)
      (by rw [leaveSlot_res_same, xres])
    rw [engageFailed, standardFault_dt, dt, forfeitRecords, storeTable_dt, leaveSlot_dt]
    exact slot_map_record _ _ _ i
  have early : Moves (Rec.Early sh.res) s (engageFailed sh.res .noConfirm .shiftNoConfirm x) := by
    refine .of_map records fun y => ?_
    split
    · exact ⟨rfl, .inr (.inl rfl)⟩
    · exact .refl _ y
  refine ⟨orders.course.trans (standardFault_course ..), kept, early, by rw [rm], ?_, fun _ => ?_, fun _ => ?_⟩
  · rw [res]
    exact input_of_mc _ rfl rfl
  · rw [rm]
    exact (put_queue ..).trans (setRes_queue s sh.res { s.res sh.res with cmd := false })
  · rw [engageFailed, standardFault_mc, orders.mode]

end
end Sys2Proof.Machine
end

section
/-! O10, second part: the shift that RESYNC waits for is DONE or fails (R183 to R185). -/
namespace Sys2Proof.Machine

/-- What stands at the end of the event in which the shift that RESYNC has waited for leaves the slot. -/
def ResyncEnds (sh : Shift) (s t : State) (appended : List Entry) : Prop :=
  ResyncCompleted sh s t ∧ (t.res sh.res).conf = s.input sh.res
    ∧ (t.fc.lockdown = false → Reopened s t (s.rm.queue ++ appended)
      ∧ (t.cp.flags.modeChanged = true ↔ t.mc.mode ≠ s.mc.mode))

section
variable {s u m p t f : State} {r : Res} {sh : Shift}

theorem Leaves.resyncEnds (h : Leaves sh s f) (w : ResyncWaits s) (hr : s.cp.resync = true)
    (hq : ∀ e ∈ s.rm.queue, e.res ≠ sh.res) {appended : List Entry}
    (ha : f.fc.lockdown = false → nextOrders sh.res (f.res sh.res) = appended) :
    ResyncEnds sh s (finish s (afterShift sh.res f)) appended := by
  obtain ⟨completed, conf, rest⟩ := h.ends w hr hq
  refine ⟨completed, conf, fun hl => ?_⟩
  obtain ⟨open', reopened, mode⟩ := rest hl
  rw [ha open'] at reopened
  exact ⟨reopened, mode⟩

/-! ## What the opening of the slot leaves -/

/-- A record that is not QUEUED stands as the head entry is looked at. -/
theorem startHead_served {i : Nat} {x : Rec} (hx : (m.dt.slot i).record = some x) (hn : x.state ≠ .queued) :
    ((startHead m).dt.slot i).record = some x := by
  obtain e | ⟨e, rest, -, -, -, -, took⟩ := startHead_cases m
  · rw [e, hx]
  · rw [took, tryActuate_dt, slotTaken_record, hx]
    simp [hn]

/-- A resource with nothing queued stands as the head entry is looked at. -/
theorem startHead_other (h : ∀ e ∈ m.rm.queue, e.res ≠ r) : ((startHead m).res r).cmd = (m.res r).cmd
    ∧ ((startHead m).res r).holders = (m.res r).holders := by
  obtain e | ⟨e, rest, -, queue, -, -, took⟩ := startHead_cases m
  · rw [e]; exact ⟨rfl, rfl⟩
  · have other : r ≠ e.res := Ne.symm (h e (by rw [queue]; exact List.mem_cons_self))
    have stands := slotTaken_watch e rest m r other
    have passes : ((tryActuate (slotTaken e rest m)).res r) = (slotTaken e rest m).res r := by
      unfold tryActuate
      rw [slotTaken_shift]
      dsimp only
      split
      · rw [trySettle_res]
        refine Eq.trans ?_ (setRes_res_other (slotTaken e rest m) e.res r
          { (slotTaken e rest m).res e.res with cmd := e.op == .engage } other)
        cases r <;> rfl
      · rfl
    rw [took, passes, stands]
    exact ⟨rfl, rfl⟩

/-- A record that is ACTIVE where RESYNC completes is so at the end, where no critical condition comes in between. -/
theorem Completes.active (h : Completes s u m p t) (same : t = finish s (startHead m)) (idle : (startHead m).cp.resync = false)
    (hl : t.fc.lockdown = false) (hc : t.fc.critical = u.fc.critical) {i : Nat} {x : Rec}
    (hx : (u.dt.slot i).record = some x) (ha : x.state = .active) : ∃ r', (t.dt.slot i).record = some r' ∧ r'.state = .active := by
  have marked : (m.dt.slot i).record = some x.mark := by rw [h.opened.record, hx]; rfl
  have active : x.mark.state = .active := ha
  have head := startHead_served marked (by rw [active]; exact fun k => by cases k)
  have open' : EndsOpen (startHead m) t := same ▸ open_lasts idle (same ▸ hl)
  obtain ⟨r', hr', stands⟩ := open'.records.forward head
  have fc : (startHead m).fc.critical = u.fc.critical := by rw [(startHead_orders m).fc, h.opened.fc]
  obtain ⟨state, -⟩ := stands (.inl (hc.trans fc.symm))
  exact ⟨r', hr', state.trans active⟩

/-- A holder that the shift's failure has made FORFEIT is so at the end. -/
theorem Completes.forfeited (h : Completes s u m p t) (same : t = finish s (startHead m))
    (idle : (startHead m).cp.resync = false) (hu : u.fc.lockdown = false) {i : Nat} {x : Rec} {why : ForfeitReason}
    (hx : (u.dt.slot i).record = some (x.forfeited why)) : ∃ r', (t.dt.slot i).record = some r'
      ∧ r'.state = .forfeit (if t.fc.lockdown then .lockdown else why) := by
  have marked : (m.dt.slot i).record = some (x.mark.forfeited why) := by rw [h.opened.record, hx]; rfl
  have head := startHead_served marked (by simp [Rec.forfeited])
  obtain ⟨x', why', hx', state, -, -, stays, locked⟩ := forfeit_lasts (s0 := s) idle head
  rw [← same] at hx' stays locked
  refine ⟨x', hx', state.trans ?_⟩
  cases hl : t.fc.lockdown
  · rw [stays hl]; rfl
  · rw [locked (by rw [(startHead_orders m).fc, h.opened.fc]; exact hu) hl]; rfl

/-! ## DONE -/

theorem settle_leaves (hs : s.rm.shift = some sh) (hg : sh.stage = .settle) : ∃ f, Leaves sh s f
    ∧ exec .settleExpiry s = .next (finish s (afterShift sh.res f))
    ∧ nextOrders sh.res (f.res sh.res) = nextOrders sh.res (s.res sh.res)
    ∧ (sh.op = .engage → f = engageReported sh.res s) := by
  obtain ⟨r, op, st, n⟩ := sh
  obtain rfl : st = .settle := hg
  have run := settleExpires_eq hs
  cases op
  · refine ⟨_, engageReported_leaves rfl, run, ?_, fun _ => rfl⟩
    have res := engageReported_res r s r
    rw [if_pos rfl] at res
    exact nextOrders_congr (by rw [res]) (by rw [res]) (by rw [res])
  · refine ⟨_, leaveSlot_leaves rfl, run, ?_, fun k => by cases k⟩
    have res := leaveSlot_res_same s r
    exact nextOrders_congr (by rw [res]) (by rw [res]) (by rw [res])

theorem resync_settles (w : ResyncWaits s) (hr : s.cp.resync = true) (hs : s.rm.shift = some sh)
    (hq : ∀ e ∈ s.rm.queue, e.res ≠ sh.res) (hg : sh.stage = .settle) : ∃ t, exec .settleExpiry s = .next t
      ∧ ResyncEnds sh s t (nextOrders sh.res (s.res sh.res))
      ∧ (sh.op = .engage → s.input sh.res = .engaged → (s.res sh.res).cmd = true → t.fc.lockdown = false →
          t.fc.critical = s.fc.critical → ∀ i r, (s.dt.slot i).record = some r → r.holds sh.res = true →
          r.reasons = Reasons.none → ∃ r', (t.dt.slot i).record = some r' ∧ r'.state = .active) := by
  obtain ⟨f, leaves, run, orders, engage⟩ := settle_leaves hs hg
  refine ⟨_, run, leaves.resyncEnds w hr hq fun _ => orders, fun ho hi hc hl hk i x hx hh hn => ?_⟩
  obtain ⟨m, p, completes, same, idle⟩ := leaves.completes w hr hq
  obtain ⟨-, -, -, -, -, -, fc, dt, -⟩ := leaves.after (w.1.trans hr) hq
  obtain rfl := engage ho
  have active : ((afterShift sh.res (engageReported sh.res s)).dt.slot i).record = some { x with state := .active } := by
    rw [dt]
    exact engageReported_active (engageReported_ready hq hi hc) hx hh hn
  exact completes.active same idle hl (by rw [hk, fc, engageReported_fc]) active rfl

/-! ## Failure -/

theorem failed_next {x : ResRec} (hc : x.cmd = false) (hh : x.holders = 0) : nextOrders r x = [] := by simp [nextOrders, hc, hh]

/-- R42: an ENGAGE fails. -/
theorem resync_engageFails (w : ResyncWaits s) (hr : s.cp.resync = true) (hs : s.rm.shift = some sh)
    (hq : ∀ e ∈ s.rm.queue, e.res ≠ sh.res) (hh : (s.res sh.res).holders = s.dt.holdersOf sh.res)
    (hg : sh.stage = .actuate) (ho : sh.op = .engage) : ∃ t, exec .confirmExpiry s = .next t
      ∧ ResyncEnds sh s t [] ∧ (t.res sh.res).cmd = false ∧ (t.res sh.res).holders = 0
      ∧ ∀ i r, (s.dt.slot i).record = some r → r.holds sh.res = true → ∃ r', (t.dt.slot i).record = some r'
        ∧ r'.state = .forfeit (if t.fc.lockdown then .lockdown else .noConfirm) := by
  let x : State := s.setRes sh.res { s.res sh.res with cmd := false }
  have run : confirmExpires s = finish s (afterShift sh.res (engageFailed sh.res .noConfirm .shiftNoConfirm x)) := by
    obtain ⟨r, op, st, n⟩ := sh
    obtain rfl : op = _ := ho
    obtain rfl : st = _ := hg
    simp only [confirmExpires, hs]
    rfl
  have entry : s.rm.entry sh.res = none := entry_none hq rfl
  have leaves : Leaves sh s (engageFailed sh.res .noConfirm .shiftNoConfirm x) := engageFailed_leaves rfl entry hh
  have xres : x.res sh.res = { s.res sh.res with cmd := false } := setRes_res_same s _ _
  have xentry : x.rm.entry sh.res = none := by
    rw [RM.entry, setRes_queue]
    exact entry
  obtain ⟨b, -, res⟩ := engageFailed_idle (s := x) .noConfirm .shiftNoConfirm xentry (by rw [xres]) (by rw [xres]; exact hh)
  have cmd : ((engageFailed sh.res .noConfirm .shiftNoConfirm x).res sh.res).cmd = false := by rw [res, xres]
  have holders : ((engageFailed sh.res .noConfirm .shiftNoConfirm x).res sh.res).holders = 0 := by rw [res]
  obtain ⟨m, p, completes, same, idle⟩ := leaves.completes w hr hq
  obtain ⟨-, -, -, shift, ures, -, fc, -, queue⟩ := leaves.after (w.1.trans hr) hq
  have lock : (engageFailed sh.res .noConfirm .shiftNoConfirm x).fc.lockdown = false := by
    obtain ⟨-, k⟩ := engageFailed_frame (r := sh.res) (s := x) .noConfirm .shiftNoConfirm
    rw [← fc, k]
    exact completes.before
  have ulock : (afterShift sh.res (engageFailed sh.res .noConfirm .shiftNoConfirm x)).fc.lockdown = false := by rw [fc, lock]
  have mres : (m.res sh.res).cmd = false ∧ (m.res sh.res).holders = 0 := by
    have k : m.res sh.res = (afterShift sh.res (engageFailed sh.res .noConfirm .shiftNoConfirm x)).res sh.res := by
      rw [State.res, completes.opened.rm]
      cases sh.res <;> rfl
    rw [k, ures]
    exact ⟨cmd, holders⟩
  have mqueue : ∀ e ∈ m.rm.queue, e.res ≠ sh.res := by
    rw [completes.opened.rm]
    dsimp only
    rw [queue ulock, failed_next cmd holders, List.append_nil]
    exact hq
  obtain ⟨hcmd, hholders⟩ := startHead_other mqueue
  rw [mres.1] at hcmd
  rw [mres.2] at hholders
  have released : ((finish s (startHead m)).res sh.res).cmd = false ∧ ((finish s (startHead m)).res sh.res).holders = 0 := by
    obtain o | l := endEvent_ends s s.dt.slots idle
    · exact ⟨(core_cmd o.core _).trans hcmd, (core_holders o.core _).trans hholders⟩
    · refine ⟨(l.cmd sh.res).trans ?_, l.holders _ hholders⟩
      rw [hcmd]
      cases sh.res <;> rfl
  refine ⟨_, congrArg Host.Outcome.next run, leaves.resyncEnds w hr hq fun _ => failed_next cmd holders, ?_, ?_,
    fun i y hy hh => ?_⟩
  · rw [same]; exact released.1
  · rw [same]; exact released.2
  · exact completes.forfeited same idle ulock (engageFailed_holder (s := x) .noConfirm .shiftNoConfirm hy hh)

theorem splitStuck_next (hl : (criticalFault .splitStuck (some .split) (splitLeft s)).fc.lockdown = false) :
    (criticalFault .splitStuck (some .split) (splitLeft s)).res .split = { s.res .split with conf := s.mc.splitPos } := by
  obtain q | l := criticalFault_ends .splitStuck (some .split) (splitLeft s)
  · rw [State.res, q.rm]
    exact splitLeft_res s
  · rw [l.lockdown] at hl; cases hl

/-- R43: a DISENGAGE fails. -/
theorem resync_disengageFails (w : ResyncWaits s) (hr : s.cp.resync = true) (hs : s.rm.shift = some sh)
    (hq : ∀ e ∈ s.rm.queue, e.res ≠ sh.res) (hg : sh.stage = .actuate) (ho : sh.op = .disengage) :
    ∃ t, exec .confirmExpiry s = .next t ∧ ResyncEnds sh s t (nextOrders sh.res (s.res sh.res))
      ∧ (sh.res = .split →
          (s.fc.critical = none → ∃ c, t.fc.critical = some c ∧ c.cause = .splitStuck ∧ c.res = some .split)
          ∧ (s.fc.critical.isSome = true → t.fc.lockdown = true)) := by
  have run : confirmExpires s = finish s (disengageUnconfirmed sh.res s) := by
    obtain ⟨r, op, st, n⟩ := sh
    obtain rfl : op = _ := ho
    obtain rfl : st = _ := hg
    simp only [confirmExpires, hs]
    rfl
  by_cases hsplit : sh.res = .split
  · have leaves : Leaves sh s (criticalFault .splitStuck (some .split) (splitLeft s)) := splitStuck_leaves hsplit
    have run' : confirmExpires s = finish s (afterShift sh.res (criticalFault .splitStuck (some .split) (splitLeft s))) := by
      rw [run, hsplit, disengageUnconfirmed_split]
    have next (hl : (criticalFault .splitStuck (some .split) (splitLeft s)).fc.lockdown = false) :
        nextOrders sh.res ((criticalFault .splitStuck (some .split) (splitLeft s)).res sh.res) =
          nextOrders sh.res (s.res sh.res) := by
      have res := splitStuck_next hl
      rw [hsplit, res]
      rfl
    obtain ⟨m, p, completes, same, idle⟩ := leaves.completes w hr hq
    obtain ⟨-, -, -, -, -, -, fc, -, -⟩ := leaves.after (w.1.trans hr) hq
    obtain ⟨-, -, leftfc, -⟩ := splitLeft_rest s
    have head : (startHead m).fc.critical = (criticalFault .splitStuck (some .split) (splitLeft s)).fc.critical
        ∧ (startHead m).fc.lockdown = (criticalFault .splitStuck (some .split) (splitLeft s)).fc.lockdown := by
      rw [(startHead_orders m).fc, completes.opened.fc, fc]
      exact ⟨rfl, rfl⟩
    refine ⟨_, congrArg Host.Outcome.next run', leaves.resyncEnds w hr hq next, fun _ => ⟨fun hn => ?_, fun hf => ?_⟩⟩
    · have filled := criticalFault_fills (s := splitLeft s) .splitStuck (some .split) (by rw [leftfc, hn])
        (by rw [leftfc, completes.before])
      rw [same]
      exact ⟨_, critical_lasts idle (head.1.trans (by rw [filled])), rfl, rfl⟩
    · have locked := criticalFault_locks (s := splitLeft s) .splitStuck (some .split) (by rw [leftfc, hf])
        (by rw [leftfc, completes.before])
      rw [same]
      exact (endEvent_kept _ _ _).lockdown (head.2.trans locked.lockdown)
  · have leaves : Leaves sh s (standardFault .ptoLost (some sh.res) (leaveSlot sh.res s)) := ptoLost_leaves rfl
    rw [disengageUnconfirmed_takeOff hsplit] at run
    have next : nextOrders sh.res ((standardFault .ptoLost (some sh.res) (leaveSlot sh.res s)).res sh.res) =
        nextOrders sh.res (s.res sh.res) := by
      have res : (standardFault .ptoLost (some sh.res) (leaveSlot sh.res s)).res sh.res = { s.res sh.res with conf := s.input sh.res } :=
        (standardFault_res ..).trans (leaveSlot_res_same s _)
      rw [res]
      rfl
    exact ⟨_, congrArg Host.Outcome.next run, leaves.resyncEnds w hr hq fun _ => next, fun h => absurd h hsplit⟩

end
end Sys2Proof.Machine
end

section
/-! SUPPORT for O10. The events through which RESYNC's shift runs on, and the lockdown that stops it (R183, R185). -/
namespace Sys2Proof.Machine

/-- The shift that RESYNC waits for is in flight, past PREPARE. -/
def Flies (sh : Shift) (x : State) : Prop := ∃ sh', x.rm.shift = some sh' ∧ sh'.res = sh.res ∧ sh'.op = sh.op ∧ sh'.stage ≠ .prepare

/-- Lockdown stands, with nothing in flight or queued and every record FORFEIT (R167). -/
structure Locked (x : State) : Prop where
  lockdown : x.fc.lockdown = true
  mode : x.mc.mode = .lockdown
  shift : x.rm.shift = none
  queue : x.rm.queue = []
  records : ∀ i y, (x.dt.slot i).record = some y → y.forfeited .lockdown = y

/-- An event in its course: RESYNC's shift is in flight still, or lockdown has stopped it. -/
structure Onward (sh : Shift) (s x : State) : Prop where
  course : Course s x
  state : (x.fc.lockdown = false ∧ Flies sh x) ∨ Locked x

/-- What stands after an event through which RESYNC goes on waiting, or which brings lockdown. -/
def ResyncStays (sh : Shift) (s t : State) : Prop :=
  (t.fc.lockdown = true → ResyncCompleted sh s t ∧ t.cp.flags.modeChanged = false ∧ t.mc.mode = .lockdown
      ∧ t.rm.shift = none ∧ t.rm.queue = [] ∧ (∀ q ∈ t.dt.records, q.state = .forfeit .lockdown))
  ∧ (t.fc.lockdown = false → t.cp.resync = true ∧ t.rm.closed = true ∧ t.cp.flags.resyncDone = s.cp.flags.resyncDone
      ∧ ∃ sh', t.rm.shift = some sh' ∧ sh'.res = sh.res ∧ sh'.op = sh.op ∧ sh'.stage ≠ .prepare)

section
variable {s u m p t x y : State} {sh : Shift} {b : List Slot}

theorem Flies.shift (h : Flies sh x) (e : y.rm.shift = x.rm.shift) : Flies sh y := by
  obtain ⟨sh', hs, k⟩ := h
  exact ⟨sh', e.trans hs, k⟩

theorem Flies.isSome (h : Flies sh x) : x.rm.shift.isSome = true := by
  obtain ⟨sh', hs, -⟩ := h
  rw [hs]; rfl

theorem Locks.locked (l : Locks x y) : Locked y := ⟨l.lockdown, l.mode, l.shift, l.queue, fun i z hz => by
  rw [l.records] at hz
  obtain ⟨q, -, rfl⟩ := Option.map_eq_some_iff.1 hz
  rfl⟩

theorem Onward.start (sh : Shift) (hl : s.fc.lockdown = false) (h : Flies sh s) : Onward sh s s := ⟨(Tail.refl s).toCourse, .inl ⟨hl, h⟩⟩

/-- A critical condition is taken: it is captured or brings lockdown. -/
theorem Onward.ends (h : Onward sh s x) (e : Ends x y) : Onward sh s y := by
  refine ⟨h.course.trans e.tail.toCourse, ?_⟩
  obtain ⟨hl, flies⟩ | locked := h.state
  · obtain q | l := e
    · exact .inl ⟨q.lockdown.trans hl, flies.shift (by rw [q.rm])⟩
    · exact .inr l.locked
  · obtain q | l := e
    · obtain ⟨-, dt, -⟩ | ⟨-, k, -⟩ := q.captured
      · refine .inr ⟨q.lockdown.trans locked.lockdown, q.mode.trans locked.mode, by rw [q.rm, locked.shift],
          by rw [q.rm, locked.queue], fun i z hz => ?_⟩
        rw [dt] at hz
        exact locked.records i z hz
      · rw [locked.lockdown] at k; cases k
    · have k := l.before
      rw [locked.lockdown] at k; cases k

/-- An operation that lets the shift run on. -/
theorem Onward.orders (h : Onward sh s x) (o : Orders x y) (hl : x.fc.lockdown = false) (hf : Flies sh y) : Onward sh s y :=
  ⟨h.course.trans o.course, .inl ⟨by rw [o.fc, hl], hf⟩⟩

/-- An operation that leaves the Command Port but for its flags, the captures, the Resource Manager's part in this and the records. -/
theorem Onward.of_eq (h : Onward sh s x) (hc : y.cp = x.cp) (hf : y.fc = x.fc) (hr : y.rm.closed = x.rm.closed)
    (hs : y.rm.shift = x.rm.shift) (hq : y.rm.queue = x.rm.queue) (hm : y.mc.mode = x.mc.mode) (hp : y.pe = x.pe)
    (hd : y.dt = x.dt) : Onward sh s y := by
  refine ⟨h.course.trans (.of_eq hc (by rw [hf]) (by rw [hf]) hr hp (.of_dt Rec.Course.refl hd)), ?_⟩
  obtain ⟨hl, flies⟩ | locked := h.state
  · exact .inl ⟨by rw [hf, hl], flies.shift hs⟩
  · exact .inr ⟨by rw [hf, locked.lockdown], hm.trans locked.mode, hs.trans locked.shift, hq.trans locked.queue,
      fun i z hz => locked.records i z (by rw [← hd]; exact hz)⟩

/-! ## The end of the event -/

theorem settleResync_waits (h : x.rm.shift.isSome = true) : settleResync b x = x := by
  unfold settleResync
  rw [if_neg]
  obtain ⟨sh, hs⟩ := Option.isSome_iff_exists.1 h
  simp [hs]

/-- What follows the Resource Manager's work in an event in which its shift runs on. -/
theorem Onward.followUp (h : Onward sh s x) (hl : x.fc.lockdown = false) (hf : Flies sh x) (s0 : State) (b : List Slot) :
    Onward sh s (followUp s0 b x) := by
  have suspended : Onward sh s (evaluateSuspensions x) :=
    ⟨h.course.trans (evaluateSuspensions_tail x).toCourse, .inl ⟨by simpa using hl, hf.shift (by simp)⟩⟩
  have derives (v : State) (k : Onward sh s v) (kl : v.fc.lockdown = false) (kf : Flies sh v) : Onward sh s (deriveAndWatch v) := by
    have mode : Onward sh s (deriveMode v) :=
      ⟨k.course.trans (deriveMode_tail v).toCourse, .inl ⟨by simpa using kl, kf.shift (by simp)⟩⟩
    exact mode.ends (deriveAndWatch_ends v)
  unfold Machine.followUp
  rw [settleResync_waits hf.isSome]
  dsimp only
  split
  · split
    · exact derives x h hl hf
    · exact h
  · split
    · exact derives _ suspended (by simpa using hl) (hf.shift (by simp))
    · exact suspended

theorem Onward.positions (h : Onward sh s x) : Onward sh s (positionWatches x) := by
  obtain ⟨a, c, mc, -, dt, fc, core⟩ := positionWatches_rest x
  obtain ⟨m, a', c', e, -⟩ := positionWatches_eq x
  exact h.of_eq (by rw [e]; rfl) fc (core_closed core) (core_shift core) (core_queue core) (by rw [mc]) (by rw [e]; rfl) dt

/-- In lockdown no record moves after RESYNC's completion but for its changed flag. -/
theorem Completes.record_locked (h : Completes s u m p t) (records : ∀ i y, (u.dt.slot i).record = some y → y.forfeited .lockdown = y)
    {i : Nat} {z : Rec} (hz : (t.dt.slot i).record = some z) :
    ∃ y, (u.dt.slot i).record = some y ∧ z = y.mark ∧ y.state = .forfeit .lockdown := by
  obtain ⟨y, z', hy, c, -, e⟩ := h.later hz
  have stands := records i y hy
  have state : y.state = .forfeit .lockdown := (congrArg Rec.state stands).symm
  have marked : y.mark.forfeited .lockdown = y.mark := congrArg Rec.mark stands
  have same : z' = y.mark := by
    obtain k | k := c.forfeit (by rw [Rec.isForfeit, Rec.mark, state])
    · exact k
    · exact k.trans marked
  subst same
  exact ⟨y, hy, e.elim id id, state⟩

theorem Completes.raises_locked (h : Completes s u m p t) (records : ∀ i y, (u.dt.slot i).record = some y → y.forfeited .lockdown = y)
    (sh : Shift) : Raises sh s u t := by
  intro i r hr _ _ hz
  obtain ⟨y, hy, e, -⟩ := h.record_locked records hz
  exact ⟨y, hy, (congrArg Rec.watched e).symm⟩

theorem Completes.stays_locked (h : Completes s u m p t) (records : ∀ i y, (u.dt.slot i).record = some y → y.forfeited .lockdown = y)
    (sh : Shift) (hl : t.fc.lockdown = true) (hm : t.cp.flags.modeChanged = false) (mode : t.mc.mode = .lockdown)
    (shift : t.rm.shift = none) (queue : t.rm.queue = []) : ResyncStays sh s t := by
  refine ⟨fun _ => ⟨h.completed sh (h.raises_locked records sh), hm, mode, shift, queue, fun q hq => ?_⟩, fun k => ?_⟩
  · obtain ⟨i, hi⟩ := mem_records_iff.1 hq
    obtain ⟨y, -, rfl, state⟩ := h.record_locked records hi
    exact state
  · rw [hl] at k; cases k

theorem Opened.head_locked (h : Opened b u m) (locked : Locked u) : startHead m = m :=
  startHead_stands (.inr (.inl (by rw [h.rm]; exact locked.queue)))

/-- Where lockdown has stopped the shift before the event's end RESYNC completes there first. -/
theorem Onward.finish_locked (w : ResyncWaits s) (hr : s.cp.resync = true) (course : Course s x) (locked : Locked x) (s0 : State) :
    ResyncStays sh s (endEvent s0 s.dt.slots x) := by
  obtain ⟨before, apply, -⟩ := w.2 hr
  obtain ⟨ends, idle⟩ := endEvent_completes s0 s.dt.slots (course.resync.trans hr) locked.shift
  obtain ⟨m, e, opened⟩ := completeResync_opens s.dt.slots x
  rw [e] at ends idle
  obtain ⟨p, tail, last⟩ := endEvent_tail s0 s.dt.slots idle
  have completes : Completes s x m p (endEvent s0 s.dt.slots x) := ⟨before, apply, course, opened, tail, ends.trans last⟩
  have head := opened.head_locked locked
  rw [head] at ends idle
  have mlock : m.fc.lockdown = true := by rw [opened.fc]; exact locked.lockdown
  have mmode : m.mc.mode = .lockdown := by rw [opened.mc]; exact locked.mode
  have open' : EndsOpen m (endEvent s0 s.dt.slots m) := by
    obtain o | l := endEvent_ends s0 s.dt.slots idle
    · exact o
    · have k := l.before
      rw [mlock] at k; cases k
  have mode : (endEvent s0 s.dt.slots m).mc.mode = .lockdown := open'.locked mlock mmode
  have changed : (endEvent s0 s.dt.slots m).cp.flags.modeChanged = false := by
    have k := endEvent_modeChanged s0 s.dt.slots idle (by rw [opened.flags]) open'.lockdown
    rw [mode, mmode] at k
    simpa using k
  refine completes.stays_locked locked.records sh ?_ ?_ ?_ ?_ ?_
  · rw [ends, open'.lockdown, mlock]
  · rw [ends, changed]
  · rw [ends, mode]
  · rw [ends, core_shift open'.core, opened.rm]; exact locked.shift
  · rw [ends, core_queue open'.core, opened.rm]; exact locked.queue

/-- R185: lockdown at the event's end stops the shift, and RESYNC completes after it. -/
theorem Onward.finish (h : Onward sh s x) (w : ResyncWaits s) (hr : s.cp.resync = true) (s0 : State) :
    ResyncStays sh s (endEvent s0 s.dt.slots x) := by
  obtain ⟨closed, waits⟩ := w
  obtain ⟨before, apply, -⟩ := waits hr
  obtain ⟨hl, flies⟩ | locked := h.state
  · have last := (h.followUp hl flies s0 s.dt.slots).positions
    have e : endEvent s0 s.dt.slots x = markChanged s.dt.slots (settleResync s.dt.slots
        (positionWatches (Machine.followUp s0 s.dt.slots x))) := rfl
    rw [e]
    generalize positionWatches (Machine.followUp s0 s.dt.slots x) = y at last
    obtain ⟨yl, yf⟩ | locked := last.state
    · rw [settleResync_waits yf.isSome]
      refine ⟨fun k => ?_, fun _ => ⟨?_, ?_, ?_, ?_⟩⟩
      · rw [markChanged_fc, yl] at k; cases k
      · rw [markChanged_resync, last.course.resync, hr]
      · rw [markChanged_rm, last.course.closed, closed, hr]
      · have flags := markChanged_flags (s := y) (b := s.dt.slots)
        rw [flags]
        exact last.course.resyncDone
      · rw [markChanged_rm]; exact yf
    · obtain ⟨m, e, opened⟩ := completeResync_opens s.dt.slots y
      rw [opened.head_locked locked] at e
      have settled : settleResync s.dt.slots y = m := by
        unfold settleResync
        rw [if_pos (by simp [last.course.resync, hr, locked.shift]), e]
      have completes : Completes s y m m (markChanged s.dt.slots m) :=
        ⟨before, apply, last.course, opened, by rw [opened.head_locked locked]; exact .refl m, rfl⟩
      rw [settled]
      refine completes.stays_locked locked.records sh ?_ ?_ ?_ ?_ ?_
      · rw [markChanged_fc, opened.fc]; exact locked.lockdown
      · rw [markChanged_flags, opened.flags]
      · rw [markChanged_mc, opened.mc]; exact locked.mode
      · rw [markChanged_rm, opened.rm]; exact locked.shift
      · rw [markChanged_rm, opened.rm]; exact locked.queue
  · exact Onward.finish_locked ⟨closed, waits⟩ hr h.course locked s0

end
end Sys2Proof.Machine
end

section
/-! O10, third part: the events through which RESYNC goes on waiting (R183, R185). -/
namespace Sys2Proof.Machine

section
variable {s x y d : State} {sh : Shift} {r : Res} {l : Inputs}

/-! ## Orders beside a shift in flight past PREPARE -/

theorem appendEntry_shift (op : ShiftOp) (hs : x.rm.shift.isSome = true) : (appendEntry r op x).rm.shift = x.rm.shift := by
  unfold appendEntry
  split
  · rfl
  · have stands := startHead_stands (s := x.setRm { x.rm with queue := x.rm.queue ++ [⟨r, op, false⟩] }) (.inl hs)
    rw [stands]; rfl

theorem stoppedWanted_shift (h : Flies sh x) : (stoppedWanted r x).rm.shift = x.rm.shift := by
  obtain ⟨sh', hs, -, -, stage⟩ := h
  have some : x.rm.shift.isSome = true := by rw [hs]; rfl
  unfold stoppedWanted
  split
  · split
    · rfl
    · rfl
  · rw [hs]
    dsimp only
    repeat' split
    · rename_i k
      exact absurd k.2 stage
    · exact hs
    · rw [appendEntry_shift _ some, hs]
    · exact hs

theorem becameWanted_shift (h : Flies sh x) : (becameWanted r x).rm.shift = x.rm.shift := by
  obtain ⟨sh', hs, -, -, stage⟩ := h
  have some : x.rm.shift.isSome = true := by rw [hs]; rfl
  unfold becameWanted
  split
  · split
    · rfl
    · rfl
  · rw [hs]
    dsimp only
    repeat' split
    · rename_i k
      exact absurd k.2 stage
    · exact hs
    · exact hs
    · rw [appendEntry_shift _ some, hs]

theorem cutOut_shift (h : Flies sh x) : (cutOut r x).rm.shift = x.rm.shift := by
  have cut : Flies sh (x.setRes r { x.res r with cut := true, orphan := false }) := h.shift (setRes_shift ..)
  unfold cutOut
  dsimp only
  split
  · refine (congrArg RM.shift (updateRecords_rm _ _)).trans ?_
    repeat' split
    · rw [appendEntry_shift _ cut.isSome, setRes_shift]
    · rw [stoppedWanted_shift cut, setRes_shift]
    · rw [setRes_shift]
  · rfl

theorem clearCut_shift (h : Flies sh x) : (clearCut r x).rm.shift = x.rm.shift := by
  have clear : Flies sh (x.setRes r { x.res r with cut := false }) := h.shift (setRes_shift ..)
  unfold clearCut
  dsimp only
  split
  · refine (congrArg RM.shift (updateRecords_rm _ _)).trans ?_
    split
    · rw [becameWanted_shift clear, setRes_shift]
    · rw [setRes_shift]
  · rfl

theorem forfeitHolders_shift (w : ForfeitReason) (h : Flies sh x) : (forfeitHolders r w x).rm.shift = x.rm.shift := by
  have rm : (forfeitRecords r w x).rm = x.rm := storeTable_rm ..
  have flies (v : ResRec) : Flies sh ((forfeitRecords r w x).setRes r v) := h.shift (by rw [setRes_shift, rm])
  unfold forfeitHolders holdersFewer
  dsimp only
  repeat' split
  · rw [setRes_shift, rm]
  · rw [stoppedWanted_shift (flies _), setRes_shift, rm]
  · rw [setRes_shift, rm]

theorem tryActuate_flies (h : Flies sh x) : tryActuate x = x := by
  obtain ⟨sh', hs, -, -, stage⟩ := h
  simp [tryActuate, hs, stage]

/-- R39, R40: an input change moves the shift between ACTUATE and SETTLE. -/
theorem stageChange_flies (h : Flies sh x) : Flies sh (stageChange x) := by
  obtain ⟨sh', hs, res, op, stage⟩ := h
  obtain ⟨r', op', stage', n⟩ := sh'
  unfold stageChange
  rw [hs]
  dsimp only
  cases stage'
  case prepare => exact absurd rfl stage
  case actuate =>
    unfold trySettle
    rw [hs]
    dsimp only
    split
    · exact ⟨_, rfl, res, op, by simp⟩
    · exact ⟨_, hs, res, op, by simp⟩
  case settle =>
    unfold tryBounce
    rw [hs]
    dsimp only
    split
    · exact ⟨_, rfl, res, op, by simp⟩
    · exact ⟨_, hs, res, op, by simp⟩

theorem driftLapses_shift (r : Res) (x : State) : (driftLapses r x).rm.shift = x.rm.shift := by
  rw [driftLapses_eq, setRes_shift]

theorem followConfirm_shift_stands (r : Res) (x : State) : (followConfirm r x).rm.shift = x.rm.shift := by
  unfold followConfirm
  split
  · rfl
  · rw [checkPumpPath_shift, driftLapses_shift, takeConfirm_shift]

theorem foldl_shift {f : State → Res → State} (h : ∀ x r, (f x r).rm.shift = x.rm.shift) (l : List Res) :
    ∀ x, (l.foldl f x).rm.shift = x.rm.shift := by
  induction l with
  | nil => exact fun x => rfl
  | cons r l ih => exact fun x => (ih (f x r)).trans (h x r)

theorem releaseOrphan_shift (h : x.rm.shift.isSome = true) : (releaseOrphan r x).rm.shift = x.rm.shift := by
  unfold releaseOrphan
  split
  · rw [appendEntry_shift _ (by rw [setRes_shift]; exact h), setRes_shift]
  · rfl

theorem releaseOrphans_shift (l : List Res) : ∀ x : State, x.rm.shift.isSome = true →
    (l.foldl (fun s r => releaseOrphan r s) x).rm.shift = x.rm.shift := by
  induction l with
  | nil => exact fun x _ => rfl
  | cons r l ih =>
    intro x h
    have one := releaseOrphan_shift (r := r) h
    exact (ih _ (by rw [one]; exact h)).trans one

/-! ## The overspeed watch -/

theorem overspeedWatch_moves (x : State) : Moves (fun q q' => q.Course q' ∧ (q.isForfeit = true → q' = q)) x (overspeedWatch x)
    ∧ (overspeedWatch x).pe = x.pe := by
  have stands (y : State) (h : y.dt = x.dt) : Moves (fun q q' => q.Course q' ∧ (q.isForfeit = true → q' = q)) x y :=
    .of_dt (fun q => ⟨.refl q, fun _ => rfl⟩) h
  unfold overspeedWatch
  dsimp only
  repeat' split
  · refine ⟨.of_map (fun i => updateRecords_record _ _ i) fun q => ⟨Rec.withReason_course _ _ _ _ q, fun k => ?_⟩, updateRecords_pe _ _⟩
    simp [Rec.withReason, k]
  all_goals exact ⟨stands _ rfl, rfl⟩

theorem Onward.overspeed (h : Onward sh s x) : Onward sh s (overspeedWatch x) := by
  obtain ⟨⟨e, v, g, mc⟩, rm, fc, cp, -⟩ := overspeedWatch_rest x
  obtain ⟨moves, pe⟩ := overspeedWatch_moves x
  refine ⟨h.course.trans (.of_eq cp (by rw [fc]) (by rw [fc]) (by rw [rm]) pe (moves.mono fun _ _ k => k.1)), ?_⟩
  obtain ⟨hl, flies⟩ | locked := h.state
  · exact .inl ⟨by rw [fc, hl], flies.shift (by rw [rm])⟩
  · refine .inr ⟨by rw [fc, locked.lockdown], by rw [mc]; exact locked.mode, by rw [rm, locked.shift], by rw [rm, locked.queue],
      fun i z hz => ?_⟩
    obtain ⟨q, hq, -, same⟩ := moves.back hz
    have stands := locked.records i q hq
    rw [same (by rw [← stands]; rfl)]
    exact stands

/-! ## The input change -/

/-- What R46, R60 and R191 do at a sample, before orphan marking or with the shift where the change has left it. -/
theorem Onward.pathBoth (h : Onward sh s d) : Onward sh s (pathBothTest d) := by
  have test : Onward sh s (d.setRm { d.rm with pathBoth := d.pathBothCondition }) := h.of_eq rfl rfl rfl rfl rfl rfl rfl rfl
  exact test.ends (pathBothTest_ends d)

theorem Onward.beforeMarking (h : Onward sh s d) (hl : d.fc.lockdown = false) (hf : Flies sh d) :
    Onward sh s (pathBothTest (followBeforeMarking d)) := by
  have shift : (followBeforeMarking d).rm.shift = d.rm.shift := by
    unfold followBeforeMarking
    split
    · rfl
    · rfl
  exact (h.orders (followBeforeMarking_orders d) hl (hf.shift shift)).pathBoth

theorem Onward.inputChange (h : Onward sh s d) (hl : d.fc.lockdown = false) (hf : Flies sh d) : Onward sh s (inputChange d) := by
  unfold Machine.inputChange
  split
  · have orders := followConfirms_orders d
    have shift := foldl_shift (fun x r => followConfirm_shift_stands r x) allRes d
    have follow : Onward sh s (allRes.foldl (fun s r => followConfirm r s) d) := h.orders orders hl (hf.shift shift)
    exact (follow.orders (stageChange_orders _) (by rw [orders.fc, hl]) (stageChange_flies (hf.shift shift))).pathBoth
  · exact h.beforeMarking hl hf

/-! ## The events -/

variable (w : ResyncWaits s) (hr : s.cp.resync = true) (hs : s.rm.shift = some sh)
include w hr hs

theorem waits_flies : s.fc.lockdown = false ∧ Flies sh s := by
  obtain ⟨lock, -, stage⟩ := w.2 hr
  refine ⟨lock, sh, hs, rfl, rfl, fun k => ?_⟩
  rw [hs, Option.map_some, k] at stage
  obtain e | e := stage
  · cases e
  · cases e

theorem Onward.of_waits (hc : x.cp = s.cp) (hf : x.fc = s.fc) (hm : x.rm.closed = s.rm.closed) (hx : x.rm.shift = s.rm.shift)
    (hp : x.pe = s.pe) (hd : x.dt = s.dt) : Onward sh s x ∧ x.fc.lockdown = false ∧ Flies sh x := by
  obtain ⟨lock, flies⟩ := waits_flies w hr hs
  have course : Course s x := .of_eq hc (by rw [hf]) (by rw [hf]) hm hp (.of_dt Rec.Course.refl hd)
  have here : x.fc.lockdown = false ∧ Flies sh x := ⟨by rw [hf, lock], flies.shift hx⟩
  exact ⟨⟨course, .inl here⟩, here⟩

/-- An event that leaves the slot and the captures. -/
theorem stays_of_eq (hc : x.cp = s.cp) (hf : x.fc = s.fc) (hm : x.rm = s.rm) : ResyncStays sh s x := by
  obtain ⟨lock, flies⟩ := waits_flies w hr hs
  refine ⟨fun k => ?_, fun _ => ⟨by rw [hc, hr], by rw [hm, w.1, hr], by rw [hc], flies.shift (by rw [hm])⟩⟩
  rw [hf, lock] at k
  cases k

theorem splitWatch_stays : ∃ t, exec .splitWatchExpiry s = .next t ∧ ResyncStays sh s t := by
  refine ⟨splitWatchExpires s, rfl, ?_⟩
  unfold splitWatchExpires
  split
  · exact stays_of_eq w hr hs rfl rfl rfl
  · obtain ⟨on, -⟩ := Onward.of_waits (x := s.setMc { s.mc with splitTimer := none, splitReported := true }) w hr hs rfl rfl rfl rfl rfl rfl
    exact (on.ends (criticalFault_ends ..)).finish w hr s

theorem drift_stays (r : Res) : ∃ t, exec (.driftExpiry r) s = .next t ∧ ResyncStays sh s t := by
  refine ⟨driftExpires r s, rfl, ?_⟩
  obtain ⟨on, lock, flies⟩ := Onward.of_waits (x := disarmed r s) w hr hs rfl rfl (setRes_closed ..) (setRes_shift ..) rfl rfl
  cases ht : (s.res r).driftTimer.isSome
  · have stands : driftExpires r s = s := by
      unfold driftExpires
      rw [if_pos (by simpa using ht)]
    rw [stands]
    exact stays_of_eq w hr hs rfl rfl rfl
  · rw [driftExpires_eq ht]
    refine Onward.finish ?_ w hr s
    split
    · have reports (c : Cause) (v : Option Res) {y : State} (h : Onward sh s y) (hl : y.fc.lockdown = false) (hf : Flies sh y) :
          Onward sh s (standardFault c v y) :=
        ⟨h.course.trans (standardFault_course ..), .inl ⟨by simpa using hl, hf.shift (by simp)⟩⟩
      unfold driftReports
      split
      · exact on.ends (criticalFault_ends ..)
      · split
        · have shift := forfeitHolders_shift (r := r) .pathLost flies
          have orders := forfeitHolders_orders (disarmed r s) r .pathLost
          exact reports _ _ (on.orders orders lock (flies.shift shift)) (by rw [orders.fc, lock]) (flies.shift shift)
        · exact reports _ _ on lock flies
    · exact on

theorem adoption_stays : ∃ t, exec .adoptionWindowExpiry s = .next t ∧ ResyncStays sh s t := by
  refine ⟨adoptionExpires s, rfl, ?_⟩
  unfold adoptionExpires
  split
  · exact stays_of_eq w hr hs rfl rfl rfl
  · obtain ⟨on, lock, flies⟩ := Onward.of_waits (x := s.setRm { s.rm with adoption := none }) w hr hs rfl rfl rfl rfl rfl rfl
    have orders := foldl_orders (fun s r => releaseOrphan_orders s r) allRes (s.setRm { s.rm with adoption := none })
    have shift := releaseOrphans_shift allRes _ flies.isSome
    exact (on.orders orders lock (flies.shift shift)).finish w hr s

theorem stillness_stays : ∃ t, exec .stillnessExpiry s = .next t ∧ ResyncStays sh s t := by
  refine ⟨stillnessExpires s, rfl, ?_⟩
  unfold stillnessExpires
  repeat' split
  · exact stays_of_eq w hr hs rfl rfl rfl
  · exact stays_of_eq w hr hs rfl rfl rfl
  · exact stays_of_eq w hr hs rfl rfl rfl
  · obtain ⟨on, lock, flies⟩ := Onward.of_waits (x := s.setMc { s.mc with still := true, stillTimer := none }) w hr hs rfl rfl rfl rfl rfl rfl
    unfold becomesStill
    rw [tryActuate_flies flies]
    have first := clearCut_shift (r := .ptoa) flies
    have second := clearCut_shift (r := .ptob) (flies.shift first)
    exact (on.orders ((clearCut_orders _ _).trans (clearCut_orders _ _)) lock (flies.shift (second.trans first))).finish w hr s

theorem window_stays : ∃ t, exec .speedWindow s = .next t ∧ ResyncStays sh s t := by
  cases ht : s.pcu.windowTimer.isSome
  · have stands : windowExpires s = s := by
      unfold windowExpires
      rw [if_pos (by simpa using ht)]
    refine ⟨windowExpires s, rfl, ?_⟩
    rw [stands]
    exact stays_of_eq w hr hs rfl rfl rfl
  · refine ⟨_, windowExpires_eq ht, ?_⟩
    obtain ⟨on, lock, flies⟩ := Onward.of_waits (x := s.setPcu (s.pcu.window s.par s.mc.still)) w hr hs rfl rfl rfl rfl rfl rfl
    have first := cutOut_shift (r := .ptoa) flies
    have second := cutOut_shift (r := .ptob) (flies.shift first)
    have taken : Flies sh (cutsTaken s) := by
      have both := flies.shift (second.trans first)
      unfold cutsTaken
      rw [tryActuate_flies both]
      exact both
    have orders := cutsTaken_orders s
    have cut : Onward sh s (cutsTaken s) := on.orders orders lock taken
    obtain ⟨a, b, slip, -⟩ := slipWatch_eq (cutsTaken s)
    have slipped : Onward sh s (slipWatch (cutsTaken s)) := by
      rw [slip]
      exact cut.of_eq rfl rfl rfl rfl rfl rfl rfl rfl
    have slock : (slipWatch (cutsTaken s)).fc.lockdown = false := by
      rw [slip]
      exact (congrArg FC.lockdown orders.fc).trans lock
    have follow := slipped.followUp slock (taken.shift (by rw [slip]; rfl)) s s.dt.slots
    exact ((follow.ends (motionWatch_ends _)).overspeed).finish w hr s

theorem sample_stays (l : Inputs) : ∃ t, exec (.inputSample l) s = .next t ∧ ResyncStays sh s t := by
  cases ht : s.mc.sampleTimer.isSome
  · have stands : inputSampled l s = s := by
      unfold inputSampled
      rw [if_pos (by simpa using ht)]
    refine ⟨inputSampled l s, rfl, ?_⟩
    rw [stands]
    exact stays_of_eq w hr hs rfl rfl rfl
  · cases hi : s.mc.inited
    · let d : State := ((sampleStarted l s).setMc { (sampleStarted l s).mc with deb := initDebouncers l, inited := true }).setPs
        { s.ps with validationTimer := some 30 }
      have run : inputSampled l s = finish (sampleStarted l s) (pathBothTest (followBeforeMarking d)) := by
        unfold inputSampled
        rw [if_neg (by simpa [Option.isSome_iff_ne_none] using ht)]
        exact if_neg (by rw [Bool.not_eq_true]; exact hi)
      obtain ⟨on, lock, flies⟩ := Onward.of_waits (x := d) w hr hs rfl rfl rfl rfl rfl rfl
      exact ⟨_, congrArg Host.Outcome.next run, (on.beforeMarking lock flies).finish w hr _⟩
    · refine ⟨_, inputSample_later ht hi, ?_⟩
      split
      · exact stays_of_eq w hr hs rfl rfl rfl
      · obtain ⟨on, lock, flies⟩ := Onward.of_waits (x := debounced l s) w hr hs rfl rfl rfl rfl rfl rfl
        exact (on.inputChange lock flies).finish w hr _

end
end Sys2Proof.Machine
end

section
/-! O10. -/
namespace Sys2Proof.Machine

/-- Settles O10: RESYNC completes as the shift it waits for leaves the slot or lockdown stops it, and waits through every other event. -/
theorem resyncReturnsPrepareAndWaitsForActuate : Obligations.ResyncReturnsPrepareAndWaitsForActuate := by
  unfold Obligations.ResyncReturnsPrepareAndWaitsForActuate
  intro completed reopened
  refine ⟨fun s h hl => resync_refused_lockdown h hl, fun s h hl ho => resync_refused_busy h hl ho,
    fun sh s h rest hl ho ha hs => ⟨fun hg hp hc hpath => resync_returns h rest hl ho ha hs hg hp hc hpath,
      fun hg => resync_waits h rest hl ho ha hs hg⟩,
    fun sh s w hr hs hq hh => ?_, fun l r sh s w hr hs c hc => ?_⟩
  · intro x failed appended ends
    refine ⟨fun hg => ?_, fun hg => ?_⟩
    · have next : appended = nextOrders sh.res (s.res sh.res) := if_neg fun k => by
        obtain ⟨actuate, -⟩ := k
        cases hg.symm.trans actuate
      obtain ⟨t, run, done, active⟩ := resync_settles w hr hs hq hg
      rw [← next] at done
      exact ⟨t, run, done, fun ho hi hc _ _ => active ho hi hc⟩
    · cases ho : sh.op
      · have next : appended = [] := if_pos ⟨hg, ho⟩
        obtain ⟨t, run, done, failed⟩ := resync_engageFails w hr hs hq hh hg ho
        rw [← next] at done
        exact ⟨t, run, done, fun _ => failed, fun k => by cases k⟩
      · have next : appended = nextOrders sh.res (s.res sh.res) := if_neg fun k => by
          obtain ⟨-, engage⟩ := k
          cases ho.symm.trans engage
        obtain ⟨t, run, done, stuck⟩ := resync_disengageFails w hr hs hq hg ho
        rw [← next] at done
        exact ⟨t, run, done, (fun k => by cases k), fun _ => stuck⟩
  · simp only [List.mem_cons, List.not_mem_nil, or_false] at hc
    obtain rfl | rfl | rfl | rfl | rfl | rfl := hc
    · exact sample_stays w hr hs l
    · exact window_stays w hr hs
    · exact stillness_stays w hr hs
    · exact splitWatch_stays w hr hs
    · exact drift_stays w hr hs r
    · exact adoption_stays w hr hs

end Sys2Proof.Machine
end

section
/-! O57. The mode stays the one that R66's tests give (R66, R67): the end of an event derives it again, and a command that ends in no
event moves nothing the tests read. -/
namespace Sys2Proof.Machine

section
variable {s t : State}

/-! ## What the tests read (R66) -/

/-- R66's tests read of the Resource Manager the shift in flight and the positions, and so nothing of a drift watch. -/
theorem modeOf_core (hf : t.fc.lockdown = s.fc.lockdown) (hr : t.rm.core = s.rm.core) (hs : t.mc.splitPos = s.mc.splitPos) :
    t.modeOf = s.modeOf := by
  have split : t.rm.split.conf = s.rm.split.conf := core_conf hr .split
  have ptor : t.rm.ptor.conf = s.rm.ptor.conf := core_conf hr .ptor
  unfold State.modeOf RM.shiftOf
  rw [hf, hs, core_shift hr, split, ptor]

theorem ModeAgrees.of_core (h : ModeAgrees s) (hm : t.mc.mode = s.mc.mode) (hd : t.mc.derived = s.mc.derived)
    (hf : t.fc.lockdown = s.fc.lockdown) (hr : t.rm.core = s.rm.core) (hs : t.mc.splitPos = s.mc.splitPos) : ModeAgrees t :=
  fun k => by rw [hm, modeOf_core hf hr hs, h (hd ▸ k)]

/-- Before its first derivation nothing is said of the mode. -/
theorem modeAgrees_underived (h : s.mc.derived = false) : ModeAgrees s := fun k => by cases h.symm.trans k

/-! ## The end of an event (R67) -/

/-- The pumping watches leave the mode just derived, or bring a lockdown in which it is LOCKDOWN. -/
theorem deriveAndWatch_modeAgrees (s : State) : ModeAgrees (deriveAndWatch s) := fun _ => by
  obtain q | l := deriveAndWatch_ends s
  · have same : (deriveAndWatch s).modeOf = s.modeOf := modeOf_congr (by rw [q.lockdown, deriveMode_fc])
      (by rw [q.rm, deriveMode_rm]) (by rw [q.kept.splitPos, deriveMode_splitPos])
    rw [q.mode, deriveMode_mode, same]
  · rw [l.mode, modeOf_lockdown l.lockdown]

theorem followUp_modeAgrees (s0 : State) (b : List Slot) (s : State) : ModeAgrees (followUp s0 b s) := by
  obtain ⟨v, -, ⟨x, y, mc⟩, e⟩ := followUp_parts s0 b s
  rw [e]
  split
  · exact deriveAndWatch_modeAgrees v
  · rename_i h
    exact modeAgrees_underived (by rw [mc]; simpa using h)

theorem positionWatches_modeAgrees (h : ModeAgrees s) : ModeAgrees (positionWatches s) := by
  obtain ⟨x, y, mc, -, -, fc, core⟩ := positionWatches_rest s
  exact h.of_core (by rw [mc]) (by rw [mc]) (by rw [fc]) core (by rw [mc]; rfl)

/-- A RESYNC still in progress waits for a shift in flight, or lockdown has just stopped that shift (R183, R185). -/
def State.ResyncHeld (s : State) : Prop := s.cp.resync = true → s.rm.shift.isSome = true ∨ s.fc.lockdown = true

theorem settleResync_held (b : List Slot) (s : State) : (settleResync b s).ResyncHeld := by
  intro hr
  unfold settleResync at hr ⊢
  split at hr
  · obtain ⟨m, e, opened⟩ := completeResync_opens b s
    rw [e, (startHead_orders m).cp, opened.resync] at hr
    cases hr
  · rename_i h
    rw [if_neg h]
    simp only [hr, Bool.true_and, Option.isNone_iff_eq_none] at h
    exact .inl (Option.isSome_iff_ne_none.2 h)

theorem Ends.resyncHeld (h : Ends s t) (k : s.ResyncHeld) : t.ResyncHeld := fun hr => by
  obtain q | l := h
  · rw [q.rm, q.lockdown]
    exact k (q.resync ▸ hr)
  · exact .inr l.lockdown

theorem followUp_held (s0 : State) (b : List Slot) (s : State) : (followUp s0 b s).ResyncHeld := by
  have settled := settleResync_held b s
  unfold followUp
  generalize settleResync b s = u at settled ⊢
  have suspended : (if (u.res .ptoa).conf = (s0.res .ptoa).conf then u else evaluateSuspensions u).ResyncHeld := by
    split
    · exact settled
    · simpa [State.ResyncHeld] using settled
  dsimp only
  generalize (if (u.res .ptoa).conf = (s0.res .ptoa).conf then u else evaluateSuspensions u) = v at suspended ⊢
  split
  · exact (deriveAndWatch_ends v).resyncHeld (by simpa [State.ResyncHeld] using suspended)
  · exact suspended

/-- R185: a RESYNC that lockdown has freed completes into a part whose slot stays empty. -/
theorem settleResync_modeAgrees (b : List Slot) (h : ModeAgrees s) (k : s.ResyncHeld) : ModeAgrees (settleResync b s) := by
  unfold settleResync
  split
  · rename_i hc
    simp only [Bool.and_eq_true, Option.isNone_iff_eq_none] at hc
    obtain ⟨hr, hs⟩ := hc
    have locked : s.fc.lockdown = true := (k hr).resolve_left (by simp [hs])
    obtain ⟨m, e, opened⟩ := completeResync_opens b s
    rw [e, startHead_lockdown (by rw [opened.fc]; exact locked)]
    have closed : ModeAgrees (s.setRm { s.rm with closed := false }) := h
    exact closed.of_core (by rw [opened.mc]; rfl) (by rw [opened.mc]; rfl) (by rw [opened.fc]; rfl) (by rw [opened.rm]; rfl)
      (by rw [opened.mc]; rfl)
  · exact h

/-- R67: at the end of an event the mode is the one R66 gives, whatever the event has done. -/
theorem endEvent_modeAgrees (s0 : State) (b : List Slot) (s : State) : ModeAgrees (endEvent s0 b s) := by
  have watched := positionWatches_modeAgrees (followUp_modeAgrees s0 b s)
  have held : (positionWatches (followUp s0 b s)).ResyncHeld := by
    obtain ⟨m, x, y, e, core, -⟩ := positionWatches_eq (followUp s0 b s)
    have shift : (positionWatches (followUp s0 b s)).rm.shift = (followUp s0 b s).rm.shift := by rw [e]; exact (congrArg RM.shift core :)
    intro hr
    rw [shift]
    rw [e] at hr ⊢
    exact followUp_held s0 b s hr
  have settled := settleResync_modeAgrees b watched held
  have marked := settled.of_core (t := markChanged b (settleResync b (positionWatches (followUp s0 b s))))
  exact marked (by simp) (by simp) (by simp) (by simp) (by simp)

theorem finish_modeAgrees (s0 s : State) : ModeAgrees (finish s0 s) := endEvent_modeAgrees s0 _ s

/-- An expiry that comes while its timer is stopped does nothing (log 2); any other is an event. -/
theorem ModeAgrees.unless {p : Prop} [Decidable p] (h : ModeAgrees s) (s0 u : State) :
    ModeAgrees (if p then s else finish s0 u) := by
  split
  · exact h
  · exact finish_modeAgrees s0 u

/-! ## Updates and reports -/

theorem ModeAgrees.setMc {m : MC} (h : ModeAgrees s) (hm : m.mode = s.mc.mode) (hd : m.derived = s.mc.derived)
    (hs : m.splitPos = s.mc.splitPos) : ModeAgrees (s.setMc m) := h.of_core hm hd rfl rfl hs

theorem standardFault_modeAgrees (c : Cause) (r : Option Res) (h : ModeAgrees s) : ModeAgrees (standardFault c r s) := by
  unfold standardFault; split
  · exact h
  · exact h

theorem ModeAgrees.govOff (h : ModeAgrees s) : ModeAgrees (Machine.govOff s) :=
  h.of_core (by simp) (by simp) (by simp) (by simp) (by simp)

/-! ## Requests -/

/-- A request keeps what its owner keeps. -/
theorem takeRequest_modeAgrees {f : State → State × Reply} (hf : ∀ s, ModeAgrees s → ModeAgrees (f s).1) (code : Byte) (d : Bool)
    (h : ModeAgrees s) : ModeAgrees (takeRequest code d f s) := by
  have ended : ModeAgrees (endTransaction s) := h
  have served : ModeAgrees (f (endTransaction s)).1 := hf _ ended
  unfold takeRequest; dsimp only
  repeat' split
  · exact h
  · exact ended
  · exact ended
  · exact served

theorem takeRead_modeAgrees (f : State → Reply) (code : Byte) (d : Bool) (h : ModeAgrees s) : ModeAgrees (takeRead code d f s) :=
  takeRequest_modeAgrees (fun _ hs => hs) code d h

theorem serveOpen_modeAgrees (station : Nat) (body : DemandBody) (h : ModeAgrees s) : ModeAgrees (serveOpen station body s).1 := by
  unfold serveOpen; dsimp only
  repeat' split
  all_goals first | exact h | exact endEvent_modeAgrees _ _ _

theorem serveAmend_modeAgrees (body : Option AmendBody) (h : ModeAgrees s) : ModeAgrees (serveAmend body s).1 := by
  unfold serveAmend; dsimp only
  repeat' split
  all_goals first | exact h | exact endEvent_modeAgrees _ _ _

theorem serveRetire_modeAgrees (d : Option Descriptor) (h : ModeAgrees s) : ModeAgrees (serveRetire d s).1 := by
  unfold serveRetire; split
  · exact h
  · exact h
  · exact finish_modeAgrees _ _

theorem serveRetireStation_modeAgrees (station : Nat) (h : ModeAgrees s) : ModeAgrees (serveRetireStation station s).1 := by
  unfold serveRetireStation; dsimp only
  generalize retireStationFrom station (List.range 24) (s, 0) = p
  split
  · exact h
  · exact finish_modeAgrees _ _

theorem serveQuery_modeAgrees (c : Bool) (d : Option Descriptor) (h : ModeAgrees s) : ModeAgrees (serveQuery c d s).1 := by
  unfold serveQuery
  repeat' split
  all_goals exact h

theorem serveFind_modeAgrees (station : Nat) (c : Bool) (f : Option FindFilter) (h : ModeAgrees s) :
    ModeAgrees (serveFind station c f s).1 := by
  unfold serveFind
  repeat' split
  all_goals exact h

theorem serveRenew_modeAgrees (station : Nat) (d : Option Descriptor) (h : ModeAgrees s) : ModeAgrees (serveRenew station d s).1 := by
  unfold serveRenew; dsimp only
  repeat' split
  all_goals first | exact h | exact endEvent_modeAgrees _ _ _

theorem serveApply_modeAgrees (station : Nat) (p : Option Nat) (h : ModeAgrees s) : ModeAgrees (serveApply station p s).1 := by
  unfold serveApply; dsimp only
  repeat' split
  all_goals exact h

theorem serveAck_modeAgrees (body : Option AckBody) (h : ModeAgrees s) : ModeAgrees (serveAck body s).1 := by
  unfold serveAck; split
  · exact h
  · exact h

theorem serveAckFault_modeAgrees (slot : Option FaultSlot) (h : ModeAgrees s) : ModeAgrees (serveAckFault slot s).1 := by
  unfold serveAckFault; dsimp only
  repeat' split
  all_goals first | exact h | exact finish_modeAgrees _ _

theorem serveResync_modeAgrees (h : ModeAgrees s) : ModeAgrees (serveResync s).1 := by
  unfold serveResync
  repeat' split
  · exact h
  · exact h
  · exact finish_modeAgrees _ _

theorem serveWrite_modeAgrees (p : Option Piece) (h : ModeAgrees s) : ModeAgrees (serveWrite p s).1 := by
  unfold serveWrite completeGroup; dsimp only
  repeat' split
  all_goals exact h

theorem serveErase_modeAgrees (h : ModeAgrees s) : ModeAgrees (serveErase s).1 := by
  unfold serveErase
  repeat' split
  all_goals exact h

theorem serveLock_modeAgrees (h : ModeAgrees s) : ModeAgrees (serveLock s).1 := by
  unfold serveLock
  repeat' split
  all_goals exact h

theorem serveUnlock_modeAgrees (h : ModeAgrees s) : ModeAgrees (serveUnlock s).1 := by
  unfold serveUnlock
  repeat' split
  all_goals exact h

/-- R175: a request handed to its owner. -/
theorem handOver_modeAgrees (i : Instr) (h : ModeAgrees s) : ModeAgrees (handOver i s) := by
  cases i with
  | nop =>
    change ModeAgrees (nopTaken s)
    unfold nopTaken; split <;> exact h
  | openDemand st b => exact takeRequest_modeAgrees (fun _ hs => serveOpen_modeAgrees st b hs) _ _ h
  | amend b => exact takeRequest_modeAgrees (fun _ hs => serveAmend_modeAgrees b hs) _ _ h
  | retire d => exact takeRequest_modeAgrees (fun _ hs => serveRetire_modeAgrees d hs) _ _ h
  | retireStation st => exact takeRequest_modeAgrees (fun _ hs => serveRetireStation_modeAgrees st hs) _ _ h
  | query c d => exact takeRequest_modeAgrees (fun _ hs => serveQuery_modeAgrees c d hs) _ _ h
  | find st c f => exact takeRequest_modeAgrees (fun _ hs => serveFind_modeAgrees st c f hs) _ _ h
  | renew st d => exact takeRequest_modeAgrees (fun _ hs => serveRenew_modeAgrees st d hs) _ _ h
  | applyPreset st p => exact takeRequest_modeAgrees (fun _ hs => serveApply_modeAgrees st p hs) _ _ h
  | ack b => exact takeRequest_modeAgrees (fun _ hs => serveAck_modeAgrees b hs) _ _ h
  | ackFault x => exact takeRequest_modeAgrees (fun _ hs => serveAckFault_modeAgrees x hs) _ _ h
  | resync => exact takeRequest_modeAgrees (fun _ hs => serveResync_modeAgrees hs) _ _ h
  | profileWrite p => exact takeRequest_modeAgrees (fun _ hs => serveWrite_modeAgrees p hs) _ _ h
  | profileErase => exact takeRequest_modeAgrees (fun _ hs => serveErase_modeAgrees hs) _ _ h
  | profileLock => exact takeRequest_modeAgrees (fun _ hs => serveLock_modeAgrees hs) _ _ h
  | profileUnlock => exact takeRequest_modeAgrees (fun _ hs => serveUnlock_modeAgrees hs) _ _ h
  | readResources | readMode | readSpeeds | readGovernor | readTank | readPresetResult | status | readFault | profileRead =>
    exact takeRead_modeAgrees _ _ _ h
  | _ => exact h

theorem transactionEnds_modeAgrees (bits : List Bool) (h : ModeAgrees s) : ModeAgrees (transactionEnds bits s) := by
  unfold transactionEnds takeReceived
  repeat' split
  all_goals first | exact h | exact handOver_modeAgrees _ h

/-! ## Inputs, speeds and timers -/

/-- R58: a sample that accepts nothing leaves the levels the tests read. -/
theorem inputSampled_modeAgrees (l : Inputs) (h : ModeAgrees s) : ModeAgrees (inputSampled l s) := by
  unfold inputSampled; dsimp only
  split
  · exact h
  · split
    · unfold laterSample; dsimp only
      split
      · rename_i ha
        exact h.of_core rfl rfl rfl rfl (by rw [MC.splitPos, ha]; rfl)
      · exact finish_modeAgrees _ _
    · exact finish_modeAgrees _ _

theorem linesShow_modeAgrees (l : Inputs) (h : ModeAgrees s) : ModeAgrees (linesShow l s) := by
  unfold linesShow; dsimp only
  split
  · exact h
  · exact h

theorem stillnessExpires_modeAgrees (h : ModeAgrees s) : ModeAgrees (stillnessExpires s) := by
  unfold stillnessExpires
  repeat' split
  all_goals first | exact h | exact finish_modeAgrees _ _

theorem pulseArrives_modeAgrees (ch : SpeedId) (h : ModeAgrees s) : ModeAgrees (pulseArrives ch s) := by
  unfold pulseArrives
  repeat' split
  all_goals exact h

theorem engineStops_modeAgrees (h : ModeAgrees s) : ModeAgrees (engineStops s) := by
  unfold engineStops
  repeat' split
  all_goals exact h

theorem slipExpires_modeAgrees (h : ModeAgrees s) : ModeAgrees (slipExpires s) := by
  unfold slipExpires
  repeat' split
  · exact h
  · exact standardFault_modeAgrees _ _ h
  · exact h

theorem rearmExpires_modeAgrees (h : ModeAgrees s) : ModeAgrees (rearmExpires s) := by
  unfold rearmExpires; split
  · exact h
  · exact h

/-! ## Level, pressure, governor, tanks -/

theorem levelFault_modeAgrees (i : TankId) (h : ModeAgrees s) : ModeAgrees (levelFault i s) := by
  unfold levelFault; dsimp only
  repeat' split
  · exact h
  · exact standardFault_modeAgrees _ _ h
  · exact h

theorem levelEdge_modeAgrees (i : TankId) (old : Phase) (a b : Bool) (h : ModeAgrees s) : ModeAgrees (levelEdge i old a b s) := by
  have counted (up : Bool) : ModeAgrees (countEdge i up s) := by
    unfold countEdge; dsimp only
    generalize (if up then min 65535 ((s.pcu.level i).count + 1) else (s.pcu.level i).count - 1) = n
    split
    · exact levelFault_modeAgrees i h
    · exact h
  unfold levelEdge
  repeat' split
  all_goals first | exact h | exact levelFault_modeAgrees i h | exact counted _

theorem levelMark_modeAgrees (i : TankId) (h : ModeAgrees s) : ModeAgrees (levelMark i s) := by
  unfold levelMark; dsimp only
  repeat' split
  · exact standardFault_modeAgrees _ _ h
  · exact h
  · exact h

theorem levelSampled_modeAgrees (i : TankId) (a b z m : Bool) (h : ModeAgrees s) : ModeAgrees (levelSampled i a b z m s) := by
  have sampled : ModeAgrees (s.setPcu (s.pcu.setLevel i { s.pcu.level i with phase := some ⟨a, b, z⟩ })) := h
  unfold levelSampled; dsimp only
  repeat' split
  · exact h
  · exact sampled
  · exact sampled
  · exact levelEdge_modeAgrees _ _ _ _ (levelMark_modeAgrees _ sampled)
  · exact levelMark_modeAgrees _ (levelEdge_modeAgrees _ _ _ _ sampled)
  · exact levelEdge_modeAgrees _ _ _ _ sampled

theorem reportPressure_modeAgrees (b a : PressChan) (c : Cause) (h : ModeAgrees s) : ModeAgrees (reportPressure b a c s) := by
  unfold reportPressure; split
  · exact standardFault_modeAgrees _ _ h
  · exact h

theorem converts_modeAgrees (d i : Nat) (h : ModeAgrees s) : ModeAgrees (converts d i s) := by
  have first (x : PI) (k : PressChan) : ModeAgrees (reportPressure s.pi.pdis k .pdisSensor (s.setPi x)) :=
    reportPressure_modeAgrees _ _ _ h
  unfold converts; dsimp only
  split
  · exact h
  · exact reportPressure_modeAgrees _ _ _ (first _ _)

theorem governorUpdates_modeAgrees (h : ModeAgrees s) : ModeAgrees (governorUpdates s) := by
  have timed : ModeAgrees (s.setPg { s.pg with updateTimer := some 100 }) := h
  unfold governorUpdates; dsimp only
  repeat' split
  · exact h
  · exact timed.govOff
  · unfold runUpdate; dsimp only
    split
    · exact standardFault_modeAgrees _ _ timed
    · exact timed

/-! ## Shifts, drift, leases, presets and the store -/

theorem settleExpires_modeAgrees (h : ModeAgrees s) : ModeAgrees (settleExpires s) := by
  unfold settleExpires
  repeat' split
  · exact finish_modeAgrees _ _
  · exact h
  · exact h

theorem prepExpires_modeAgrees (h : ModeAgrees s) : ModeAgrees (prepExpires s) := by
  unfold prepExpires
  repeat' split
  · exact finish_modeAgrees _ _
  · exact h
  · exact h

theorem confirmExpires_modeAgrees (h : ModeAgrees s) : ModeAgrees (confirmExpires s) := by
  unfold confirmExpires
  split
  · split
    · exact finish_modeAgrees _ _
    · exact h
  · exact h

theorem leaseExpires_modeAgrees (i : Nat) (h : ModeAgrees s) : ModeAgrees (leaseExpires i s) := by
  unfold leaseExpires
  repeat' split
  all_goals first | exact h | exact finish_modeAgrees _ _

theorem readCompletes_modeAgrees (h : ModeAgrees s) : ModeAgrees (readCompletes s) := by
  unfold readCompletes; dsimp only
  split
  · exact h
  · split
    · exact finish_modeAgrees _ _
    · split
      · exact h
      · exact endEvent_modeAgrees _ _ _

theorem writeCompletes_modeAgrees (h : ModeAgrees s) : ModeAgrees (writeCompletes s) := by
  unfold writeCompletes; split
  · exact finish_modeAgrees _ _
  · exact h

theorem eraseCompletes_modeAgrees (h : ModeAgrees s) : ModeAgrees (eraseCompletes s) := by
  unfold eraseCompletes; split
  · exact finish_modeAgrees _ _
  · exact h

theorem resetEnds_modeAgrees (h : ModeAgrees s) : ModeAgrees (resetEnds s) := by
  unfold resetEnds; dsimp only
  split
  · exact h
  · exact h

/-! ## Every command -/

theorem exec_modeAgrees (i : Instr) (h : ModeAgrees s) : ModeAgrees (stateOf s (exec i s)) := by
  cases i with
  | transactionStart =>
    change ModeAgrees (transactionStarts s)
    unfold transactionStarts; split <;> exact h
  | transactionEnd bits => exact transactionEnds_modeAgrees bits h
  | coldReset => exact modeAgrees_underived rfl
  | warmReset c => exact modeAgrees_underived rfl
  | resetEnd => exact resetEnds_modeAgrees h
  | inputSample l => exact inputSampled_modeAgrees l h
  | stillnessExpiry => exact stillnessExpires_modeAgrees h
  | splitWatchExpiry => exact h.unless _ _
  | pulseArrival c => exact pulseArrives_modeAgrees c h
  | engineStopExpiry => exact engineStops_modeAgrees h
  | speedWindow => exact h.unless _ _
  | graceExpiry => exact h.unless _ _
  | slipExpiry => exact slipExpires_modeAgrees h
  | rearmExpiry => exact rearmExpires_modeAgrees h
  | levelSample i a b z m => exact levelSampled_modeAgrees i a b z m h
  | pressureConversion d i => exact converts_modeAgrees d i h
  | governorUpdate => exact governorUpdates_modeAgrees h
  | tankUpdate => exact h.unless _ _
  | prepTimeout => exact prepExpires_modeAgrees h
  | confirmExpiry => exact confirmExpires_modeAgrees h
  | settleExpiry => exact settleExpires_modeAgrees h
  | driftExpiry r => exact h.unless _ _
  | adoptionWindowExpiry => exact h.unless _ _
  | leaseExpiry i => exact leaseExpires_modeAgrees i h
  | templateReadCompletion => exact readCompletes_modeAgrees h
  | profileWriteCompletion => exact writeCompletes_modeAgrees h
  | profileEraseCompletion => exact eraseCompletes_modeAgrees h
  | validationCompletion => exact h.unless _ _
  | driveOutputsFollowLines l => exact linesShow_modeAgrees l h
  | nop => exact handOver_modeAgrees .nop h
  | openDemand st b => exact handOver_modeAgrees (.openDemand st b) h
  | amend b => exact handOver_modeAgrees (.amend b) h
  | retire d => exact handOver_modeAgrees (.retire d) h
  | retireStation st => exact handOver_modeAgrees (.retireStation st) h
  | query c d => exact handOver_modeAgrees (.query c d) h
  | find st c f => exact handOver_modeAgrees (.find st c f) h
  | renew st d => exact handOver_modeAgrees (.renew st d) h
  | readResources => exact handOver_modeAgrees .readResources h
  | readMode => exact handOver_modeAgrees .readMode h
  | readSpeeds => exact handOver_modeAgrees .readSpeeds h
  | readGovernor => exact handOver_modeAgrees .readGovernor h
  | readTank t => exact handOver_modeAgrees (.readTank t) h
  | applyPreset st p => exact handOver_modeAgrees (.applyPreset st p) h
  | readPresetResult => exact handOver_modeAgrees .readPresetResult h
  | status => exact handOver_modeAgrees .status h
  | ack b => exact handOver_modeAgrees (.ack b) h
  | readFault => exact handOver_modeAgrees .readFault h
  | ackFault x => exact handOver_modeAgrees (.ackFault x) h
  | resync => exact handOver_modeAgrees .resync h
  | profileRead g => exact handOver_modeAgrees (.profileRead g) h
  | profileWrite p => exact handOver_modeAgrees (.profileWrite p) h
  | profileErase => exact handOver_modeAgrees .profileErase h
  | profileLock => exact handOver_modeAgrees .profileLock h
  | profileUnlock => exact handOver_modeAgrees .profileUnlock h

/-- A millisecond moves the timers of the shift and the watches, none of which the tests read (log 1). -/
theorem tick_modeAgrees (h : ModeAgrees s) : ModeAgrees (tick s) := by
  have same : (tick s).modeOf = s.modeOf := by
    cases hs : s.rm.shift <;> simp [State.modeOf, RM.shiftOf, tick, hs, MC.splitPos, MC.accepted, ResRec.tick]
  intro hd
  exact (h hd).trans same.symm

theorem step_modeAgrees (h : ModeAgrees s) (hs : step s = .next t) : ModeAgrees t := by
  cases hp : s.pending with
  | nil =>
    simp only [step, hp] at hs
    exact Host.Outcome.next.inj hs ▸ tick_modeAgrees h
  | cons c rest =>
    simp only [step, hp] at hs
    have he := exec_modeAgrees c (s := s.setPending rest) h
    rw [hs] at he
    exact he

end

/-- R61: the split position is UNKNOWN before the first sample (log 5) and while both switches read alike. -/
theorem splitPos_unknown (m : MC) : (m.splitPos == .unknown) = (!m.inited || m.accepted.shroad == m.accepted.shpump) := by
  unfold MC.splitPos splitOf
  cases m.inited <;> cases m.accepted.shroad <;> cases m.accepted.shpump <;> rfl

/-- R66's six tests, in their order, are the model's. -/
theorem modeOf_eq (s : State) : s.modeOf =
    let splitShift : Bool := s.rm.shift.any (fun sh => sh.res == .split)
    let engageShift : Bool := s.rm.shift.any (fun sh => sh.op == .engage)
    let unknown : Bool := !s.mc.inited || s.mc.accepted.shroad == s.mc.accepted.shpump
    if s.fc.lockdown then .lockdown
    else if unknown && !splitShift then .indeterminate
    else if splitShift || engageShift then .shifting
    else if s.rm.split.conf = .engaged then .pump
    else if s.rm.ptor.conf = .engaged ∧ s.rm.split.conf = .disengaged then .roll
    else .road := by
  unfold State.modeOf RM.shiftOf
  rw [splitPos_unknown]
  cases s.rm.shift <;> simp

/-- Settles O57: each event ends with the mode derived anew, and nothing else moves what it is derived from. -/
theorem modeStaysDerived : Obligations.ModeStaysDerived := by
  unfold Obligations.ModeStaysDerived
  intro derivedMode s t h hs
  have agrees : ModeAgrees s := fun hd => (h hd).trans (modeOf_eq s).symm
  exact fun hd => (step_modeAgrees agrees hs hd).trans (modeOf_eq t)

end Sys2Proof.Machine
end

section
/-! SUPPORT for O30, O31. What the end of an event leaves, with a RESYNC in progress too, of the slot, the outputs and the positions. -/
namespace Sys2Proof.Machine

section
variable {s t u : State} {q : Res}

theorem Ends.kept (h : Ends s t) : Kept s t := by
  obtain k | k := h
  · exact k.kept
  · exact k.kept

/-- What each part of the end of an event keeps, the end keeps. -/
theorem endEvent_keeps {P : State → Prop} {b : List Slot} (settle : ∀ x, P x → P (settleResync b x))
    (suspend : ∀ x, P x → P (evaluateSuspensions x)) (derive : ∀ x, P x → P (deriveAndWatch x))
    (watch : ∀ x, P x → P (positionWatches x)) (mark : ∀ x, P x → P (markChanged b x)) (s0 : State) (h : P u) :
    P (endEvent s0 b u) := by
  have follow : P (followUp s0 b u) := by
    have settled := settle u h
    unfold followUp; dsimp only
    split <;> split
    · exact derive _ settled
    · exact settled
    · exact derive _ (suspend _ settled)
    · exact suspend _ settled
  exact mark _ (settle _ (watch _ follow))

/-! ## The slot and the outputs -/

/-- The Resource Manager apart from its drift watches and the closure of the slot. -/
def RM.drives (m : RM) : RM := { m.core with closed := false }

section
variable (h : t.rm.drives = s.rm.drives)
include h

theorem drives_cmd (q : Res) : (t.res q).cmd = (s.res q).cmd := by
  have e := congrArg (fun m => (m.get q).cmd) h
  cases q <;> exact e

theorem drives_conf (q : Res) : (t.res q).conf = (s.res q).conf := by
  have e := congrArg (fun m => (m.get q).conf) h
  cases q <;> exact e

theorem drives_shift : t.rm.shift = s.rm.shift := by have e := congrArg RM.shift h; exact e
theorem drives_queue : t.rm.queue = s.rm.queue := by have e := congrArg RM.queue h; exact e

end

theorem drives_of_core (h : t.rm.core = s.rm.core) : t.rm.drives = s.rm.drives := by rw [RM.drives, h]; rfl

/-- R184: where a shift is in flight or nothing is queued, the completion of RESYNC opens the slot to no entry. -/
theorem settleResync_drives (b : List Slot) (h : s.rm.shift.isSome = true ∨ s.rm.queue = []) :
    (settleResync b s).rm.drives = s.rm.drives := by
  unfold settleResync
  split
  · obtain ⟨m, e, opened⟩ := completeResync_opens b s
    have stands : m.rm.shift.isSome = true ∨ m.rm.queue = [] ∨ m.rm.closed = true := by
      rw [opened.rm]
      exact h.imp_right .inl
    rw [e, startHead_stands stands, opened.rm]
    rfl
  · rfl

/-- An event that does not end in lockdown, and in which no entry can take the slot, leaves the slot, the outputs and the positions
as the Resource Manager's work has left them. -/
theorem endEvent_drives (s0 : State) (b : List Slot) (h : u.rm.shift.isSome = true ∨ u.rm.queue = [])
    (hl : (endEvent s0 b u).fc.lockdown = false) : (endEvent s0 b u).rm.drives = u.rm.drives := by
  have stands : (endEvent s0 b u).fc.lockdown = true ∨ (endEvent s0 b u).rm.drives = u.rm.drives := by
    refine endEvent_keeps (P := fun x => x.fc.lockdown = true ∨ x.rm.drives = u.rm.drives) (fun x k => ?_) (fun x k => ?_)
      (fun x k => ?_) (fun x k => ?_) (fun x k => ?_) s0 (.inr rfl)
    · refine k.imp (settleResync_kept x b).lockdown fun e => ?_
      exact (settleResync_drives b (by rwa [drives_shift e, drives_queue e])).trans e
    · exact k.imp (evaluateSuspensions_kept x).lockdown fun e => by rw [evaluateSuspensions_rm, e]
    · obtain q | l := deriveAndWatch_ends x
      · exact k.imp (deriveAndWatch_kept x).lockdown fun e => by rw [q.rm, deriveMode_rm, e]
      · exact .inl l.lockdown
    · obtain ⟨-, -, -, -, -, -, core⟩ := positionWatches_rest x
      exact k.imp (positionWatches_kept x).lockdown (drives_of_core core).trans
    · exact k.imp (markChanged_kept x b).lockdown fun e => by rw [markChanged_rm, e]
  exact stands.resolve_left (by simp [hl])

/-! ## The positions -/

/-- The confirmed position of a resource is that of its confirm input. -/
def State.Shows (s : State) (q : Res) : Prop := (s.res q).conf = s.input q

theorem State.Shows.stands (h : s.Shows q) (k : Kept s t) (hc : (t.res q).conf = (s.res q).conf) : t.Shows q :=
  hc.trans (h.trans (k.input q).symm)

/-- R28, R54: a shift that lockdown stops takes its confirm input for its position. -/
theorem State.Shows.ends (h : s.Shows q) (k : Ends s t) : t.Shows q := by
  obtain l | l := k
  · exact h.stands l.kept (by rw [State.res, l.rm]; rfl)
  · refine (l.conf q).trans ((l.kept.input q).symm ▸ ?_)
    split
    · rfl
    · exact h

theorem startHead_conf (s : State) (q : Res) : ((startHead s).res q).conf = (s.res q).conf := by
  obtain e | ⟨e, rest, -, -, -, -, he⟩ := startHead_cases s
  · rw [e]
  · rw [he, (tryActuate_line _).conf, slotTaken_conf]

theorem settleResync_conf (b : List Slot) (s : State) (q : Res) : ((settleResync b s).res q).conf = (s.res q).conf := by
  unfold settleResync
  split
  · obtain ⟨m, e, opened⟩ := completeResync_opens b s
    rw [e, startHead_conf, State.res, opened.rm]
    cases q <;> rfl
  · rfl

/-- R28: a position that its confirm input shows is so still at the end of the event. -/
theorem endEvent_shows (s0 : State) (b : List Slot) (h : u.Shows q) : (endEvent s0 b u).Shows q := by
  refine endEvent_keeps (P := fun x => x.Shows q) (fun x k => ?_) (fun x k => ?_) (fun x k => ?_) (fun x k => ?_) (fun x k => ?_) s0 h
  · exact k.stands (settleResync_kept x b) (settleResync_conf b x q)
  · exact k.stands (evaluateSuspensions_kept x) (by rw [State.res, evaluateSuspensions_rm]; rfl)
  · have mode : (deriveMode x).Shows q := k.stands (deriveMode_kept x) (by rw [State.res, deriveMode_rm]; rfl)
    exact mode.ends (deriveAndWatch_ends x)
  · obtain ⟨-, -, -, -, -, -, core⟩ := positionWatches_rest x
    exact k.stands (positionWatches_kept x) (core_conf core q)
  · exact k.stands (markChanged_kept x b) (by rw [State.res, markChanged_rm]; rfl)

/-! ## The end of a sample that has changed an accepted level -/

theorem pathBothTest_kept (s : State) : Kept s (pathBothTest s) := (setRm_kept s _).trans (pathBothTest_ends s).kept

theorem finish_pathBoth_kept (s0 w : State) : Kept w (finish s0 (pathBothTest w)) :=
  (pathBothTest_kept w).trans (finish_kept _ s0)

theorem finish_pathBoth_shows (s0 : State) {w : State} (h : w.Shows q) : (finish s0 (pathBothTest w)).Shows q := by
  have tested : (w.setRm { w.rm with pathBoth := w.pathBothCondition }).Shows q := h.stands (setRm_kept w _) (by cases q <;> rfl)
  exact endEvent_shows s0 _ (tested.ends (pathBothTest_ends w))

/-- R46, R60: outside lockdown neither the path-both test nor the end of the event moves the slot, an output or a position, unless an
entry takes a free slot. -/
theorem finish_pathBoth_stands (s0 : State) {w : State} (h : w.rm.shift.isSome = true ∨ w.rm.queue = [])
    (hl : (finish s0 (pathBothTest w)).fc.lockdown = false) : (finish s0 (pathBothTest w)).rm.shift = w.rm.shift
      ∧ (∀ q, ((finish s0 (pathBothTest w)).res q).cmd = (w.res q).cmd)
      ∧ ∀ q, ((finish s0 (pathBothTest w)).res q).conf = (w.res q).conf := by
  have rm : (pathBothTest w).rm = { w.rm with pathBoth := w.pathBothCondition } := by
    obtain k | k := pathBothTest_ends w
    · exact k.rm
    · cases ((finish_kept _ s0).lockdown k.lockdown).symm.trans hl
  have res (q : Res) : (pathBothTest w).res q = w.res q := by rw [State.res, rm]; cases q <;> rfl
  have stands := endEvent_drives s0 s0.dt.slots (u := pathBothTest w) (by rw [rm]; exact h) hl
  exact ⟨(drives_shift stands).trans (by rw [rm]), fun q => (drives_cmd stands q).trans (by rw [res]),
    fun q => (drives_conf stands q).trans (by rw [res])⟩

end
end Sys2Proof.Machine
end

section
/-! O29, O30. The samples and the drive outputs before orphan marking (R58, R59, R191, R192). -/
namespace Sys2Proof.Machine

section
variable {s d : State} {l : Inputs}

/-! ## Later samples (R58, R60) -/

theorem inputChange_kept (d : State) : Kept d (inputChange d) := by
  obtain ⟨w, e, -, kept, -⟩ := inputChange_parts d
  rw [e]
  exact kept.trans (pathBothTest_kept w)

/-- R58: of what a sample has debounced, what follows in the event leaves all as it is. -/
theorem sampled_kept (l : Inputs) (s : State) : Kept (debounced l s) (finish (sampleStarted l s) (inputChange (debounced l s))) :=
  (inputChange_kept _).trans (finish_kept _ _)

/-! ## The first sample (R59) -/

/-- R59, R192: the accepted levels are the lines and the validation timer runs. -/
def initialised (l : Inputs) (s : State) : State :=
  ((sampleStarted l s).setMc { (sampleStarted l s).mc with deb := initDebouncers l, inited := true }).setPs
    { s.ps with validationTimer := some 30 }

theorem inputSample_first (hs : s.mc.sampleTimer.isSome = true) (hi : s.mc.inited = false) : exec (.inputSample l) s =
    .next (finish (sampleStarted l s) (pathBothTest (followBeforeMarking (initialised l s)))) := by
  have run : inputSampled l s = finish (sampleStarted l s) (firstSample l (sampleStarted l s)) := by
    unfold inputSampled
    rw [if_neg (by simpa [Option.isSome_iff_ne_none] using hs)]
    exact if_neg (by simp [hi])
  exact congrArg Host.Outcome.next run

theorem inputSample_stopped (hs : s.mc.sampleTimer = none) : exec (.inputSample l) s = .next s := by
  have run : inputSampled l s = s := by simp [inputSampled, hs]
  exact congrArg Host.Outcome.next run

theorem splitOf_eq (l : Inputs) : splitOf l = if l.shroad = true ∧ l.shpump = false then Pos.disengaged
    else if l.shpump = true ∧ l.shroad = false then .engaged else .unknown := by
  cases hr : l.shroad <;> cases hp : l.shpump <;> simp [splitOf, hr, hp]

/-! ## The drive outputs (R191) -/

/-- R191: the drive outputs stand as these levels have them. -/
def State.Follows (x : Inputs) (t : State) : Prop :=
  t.rm.split.cmd = followShift x ∧ t.rm.ptor.cmd = followPtor x ∧ t.rm.ptoa.cmd = x.ptoaOn ∧ t.rm.ptob.cmd = x.ptobOn

theorem followBeforeMarking_follows (hl : d.fc.lockdown = false) : (followBeforeMarking d).Follows d.mc.accepted := by
  simp [followBeforeMarking, hl, State.Follows, outputsFollow, confirmsFollow]

/-- R191: an event before orphan marking, with nothing queued, leaves the outputs following the debounced inputs. -/
theorem finish_follows (s0 : State) (hq : d.rm.queue = [])
    (hl : (finish s0 (pathBothTest (followBeforeMarking d))).fc.lockdown = false) :
    (finish s0 (pathBothTest (followBeforeMarking d))).Follows d.mc.accepted := by
  have kept := (followBeforeMarking_kept d).trans (finish_pathBoth_kept s0 _)
  have before : d.fc.lockdown = false := Bool.eq_false_iff.2 fun h => by cases (kept.lockdown h).symm.trans hl
  have queue : (followBeforeMarking d).rm.queue = [] := by simp [followBeforeMarking, before, outputsFollow, confirmsFollow, hq]
  obtain ⟨split, ptor, ptoa, ptob⟩ := followBeforeMarking_follows before
  obtain ⟨-, cmd, -⟩ := finish_pathBoth_stands s0 (.inr queue) hl
  exact ⟨(cmd .split).trans split, (cmd .ptor).trans ptor, (cmd .ptoa).trans ptoa, (cmd .ptob).trans ptob⟩

/-- R59, R192 stage 2: the first sample. -/
theorem firstSample_follows (hs : s.mc.sampleTimer.isSome = true) (hi : s.mc.inited = false) :
    ∃ t, exec (.inputSample l) s = .next t
      ∧ t.mc.accepted = l ∧ t.mc.inited = true ∧ t.mc.deb.park.run = 0 ∧ t.mc.deb.shpump.run = 0
      ∧ t.ps = { s.ps with validationTimer := some 30 } ∧ t.mc.sampleTimer = some 5 ∧ t.mc.splitPos = splitOf l
      ∧ (s.rm.shift = none ∧ s.rm.queue = [] → t.fc.lockdown = false → t.Follows l) := by
  have kept := (followBeforeMarking_kept (initialised l s)).trans (finish_pathBoth_kept (sampleStarted l s) _)
  refine ⟨_, inputSample_first hs hi, kept.accepted, kept.inited, ?_, ?_, kept.ps, kept.sampleTimer, kept.splitPos,
    fun ⟨_, hq⟩ hl => ?_⟩
  · rw [kept.deb]; rfl
  · rw [kept.deb]; rfl
  · exact finish_follows (sampleStarted l s) (d := initialised l s) hq hl

/-- R191: a later sample before orphan marking. -/
theorem laterSample_follows (hs : s.mc.sampleTimer.isSome = true) (hi : s.mc.inited = true) (hv : s.ps.validated = false)
    (hq : s.rm.queue = []) : ∃ t, exec (.inputSample l) s = .next t
      ∧ (t.mc.accepted ≠ s.mc.accepted → t.fc.lockdown = false → t.Follows t.mc.accepted)
      ∧ (t.mc.accepted = s.mc.accepted → t.rm = s.rm) := by
  refine ⟨_, inputSample_later hs hi, ?_⟩
  split
  · rename_i same
    exact ⟨fun h => absurd same h, fun _ => rfl⟩
  · rename_i changed
    have accepted := (sampled_kept l s).accepted
    have change : inputChange (debounced l s) = pathBothTest (followBeforeMarking (debounced l s)) := if_neg fun h => by
      cases h.symm.trans hv
    rw [change] at accepted ⊢
    rw [accepted]
    exact ⟨fun _ hl => finish_follows (sampleStarted l s) (d := debounced l s) hq hl, fun h => absurd h changed⟩

end

/-- Settles O29. -/
theorem inputSampleDebounces : Obligations.InputSampleDebounces := by
  unfold Obligations.InputSampleDebounces
  intro l s hs hi next deb
  refine ⟨_, inputSample_later hs hi, ?_⟩
  split
  · exact ⟨rfl, rfl, rfl, hi, fun _ => rfl⟩
  · rename_i changed
    have kept := sampled_kept l s
    refine ⟨kept.deb, kept.sampleTimer, kept.sys, kept.inited.trans hi, fun same => absurd ?_ changed⟩
    have levels : ∀ p ∈ [(deb.park, s.mc.deb.park), (deb.neutral, s.mc.deb.neutral), (deb.pumprange, s.mc.deb.pumprange),
        (deb.shroad, s.mc.deb.shroad), (deb.shpump, s.mc.deb.shpump), (deb.ptorOn, s.mc.deb.ptorOn),
        (deb.ptoaOn, s.mc.deb.ptoaOn), (deb.ptobOn, s.mc.deb.ptobOn)], p.1.level = p.2.level := fun p hp => same p.1 p.2 hp
    simp only [List.forall_mem_cons] at levels
    obtain ⟨park, neutral, pumprange, shroad, shpump, ptorOn, ptoaOn, ptobOn, -⟩ := levels
    have accepted : (debounced l s).mc.accepted = ⟨deb.park.level, deb.neutral.level, deb.pumprange.level, deb.shroad.level,
      deb.shpump.level, deb.ptorOn.level, deb.ptoaOn.level, deb.ptobOn.level⟩ := rfl
    rw [accepted, park, neutral, pumprange, shroad, shpump, ptorOn, ptoaOn, ptobOn]
    rfl

/-- Settles O30. -/
theorem linesBeforeAndAtTheFirstSample : Obligations.LinesBeforeAndAtTheFirstSample := by
  unfold Obligations.LinesBeforeAndAtTheFirstSample
  intro l s nothingMoves follows
  refine ⟨inputSample_stopped, fun hs hi => ?_, fun hs hi hv ⟨_, hq⟩ => laterSample_follows hs hi hv hq,
    fun h => ?_, fun hr hi => ?_⟩
  · have first := firstSample_follows (l := l) hs hi
    rwa [splitOf_eq] at first
  · have shown : linesShow l s = outputsFollow l (s.setSys { s.sys with lines := l }) := if_pos (by simpa using h)
    exact congrArg Host.Outcome.next shown
  · have shown : linesShow l s = s.setSys { s.sys with lines := l } := if_neg (by simp [hr, hi])
    exact congrArg Host.Outcome.next shown

end Sys2Proof.Machine
end

section
/-! O31. The input change (R60, R28, R37 to R40). -/
namespace Sys2Proof.Machine

section
variable {s d f : State} {l : Inputs} {sh : Shift} {r : Res} {op : ShiftOp}

/-! ## What the accepted levels show (R27, R61) and allow (R37) -/

/-- R27, R61: the position of a resource that its confirm input shows under these accepted levels. -/
def shownBy (acc : Inputs) : Res → Pos
  | .split => if acc.shroad = true ∧ acc.shpump = false then .disengaged
      else if acc.shpump = true ∧ acc.shroad = false then .engaged else .unknown
  | .ptor => if acc.ptorOn then .engaged else .disengaged
  | .ptoa => if acc.ptoaOn then .engaged else .disengaged
  | .ptob => if acc.ptobOn then .engaged else .disengaged

theorem input_eq_shownBy (hi : s.mc.inited = true) (r : Res) : s.input r = shownBy s.mc.accepted r := by
  cases r with
  | split => simp only [State.input, MC.splitPos, hi, if_true, splitOf_eq, shownBy]
  | ptor => rfl
  | ptoa => rfl
  | ptob => rfl

/-- R37: the preconditions under these accepted levels, with the engine's speed, stillness and the commands as they stand. -/
def AllowedBy (acc : Inputs) (s : State) : Res → ShiftOp → Prop := fun r op => match r, op with
  | .split, .engage => (s.pcu.eng.published ≤ s.par.engageLimit ∧ acc.neutral = true ∧ s.mc.still = true)
      ∧ acc.park = true ∧ acc.ptorOn = false ∧ s.rm.ptor.cmd = false
  | .split, .disengage => s.pcu.eng.published ≤ s.par.engageLimit ∧ acc.neutral = true ∧ s.mc.still = true
  | .ptor, .engage => (s.pcu.eng.published ≤ s.par.engageLimit ∧ acc.neutral = true ∧ s.mc.still = true)
      ∧ acc.park = true ∧ shownBy acc .split = .disengaged ∧ s.rm.split.cmd = false
  | .ptoa, .engage => s.pcu.eng.published ≤ s.par.engageLimit ∧ acc.neutral = true ∧ s.mc.still = true
  | .ptob, .engage => s.pcu.eng.published ≤ s.par.engageLimit ∧ acc.neutral = true ∧ s.mc.still = true
  | _, .disengage => True

/-- R37: beside a shift of `r` the positions of the other resources are those their inputs show. -/
theorem preconditions_iff_allowedBy (hi : f.mc.inited = true) (hc : ∀ q, q ≠ r → f.Shows q) (op : ShiftOp) :
    f.preconditions r op = true ↔ AllowedBy f.mc.accepted f r op := by
  have shown (q : Res) (h : q ≠ r) : (f.res q).conf = shownBy f.mc.accepted q := (hc q h).trans (input_eq_shownBy hi q)
  cases r with
  | split =>
    have ptor : f.rm.ptor.conf = .disengaged ↔ f.mc.accepted.ptorOn = false := by
      rw [show f.rm.ptor.conf = _ from shown .ptor (by decide), shownBy]
      cases f.mc.accepted.ptorOn <;> simp
    cases op
    · simp only [State.preconditions, AllowedBy, Bool.and_eq_true, decide_eq_true_eq, beq_iff_eq, ptor, Bool.not_eq_true']
      tauto
    · simp [State.preconditions, AllowedBy, and_assoc]
  | ptor =>
    have split : f.rm.split.conf = shownBy f.mc.accepted .split := shown .split (by decide)
    cases op
    · simp only [State.preconditions, AllowedBy, Bool.and_eq_true, decide_eq_true_eq, beq_iff_eq, split, Bool.not_eq_true']
      tauto
    · simp [State.preconditions, AllowedBy]
  | ptoa => cases op <;> simp [State.preconditions, AllowedBy, and_assoc]
  | ptob => cases op <;> simp [State.preconditions, AllowedBy, and_assoc]

/-! ## The positions follow (R28) -/

theorem followConfirm_conf (x : Res) (s : State) (q : Res) : ((followConfirm x s).res q).conf =
    if q = x ∧ s.rm.shiftOf x = false then s.input x else (s.res q).conf := by
  unfold followConfirm
  split
  · rename_i flies
    rw [if_neg (by simp [flies])]
  · rename_i idle
    rw [checkPumpPath_res, driftLapses_eq, core_conf (setRes_core _ _ (lapsed_core _ _)) q, takeConfirm_res]
    by_cases h : q = x
    · rw [if_pos h, if_pos ⟨h, by simpa using idle⟩]
    · rw [if_neg h, if_neg fun k => h k.1]

theorem followConfirm_cmd (x : Res) (s : State) (q : Res) : ((followConfirm x s).res q).cmd = (s.res q).cmd := by
  unfold followConfirm
  split
  · rfl
  · rw [checkPumpPath_res, driftLapses_eq, core_cmd (setRes_core _ _ (lapsed_core _ _)) q, takeConfirm_res]
    split
    · rename_i h
      rw [h]
    · rfl

/-- R28: each resource of these that has no shift in flight takes its confirm input for its position; the others keep theirs. -/
theorem followConfirms_conf_eq (q : Res) (l : List Res) : ∀ s : State, ((l.foldl (fun s r => followConfirm r s) s).res q).conf =
    if q ∈ l ∧ s.rm.shiftOf q = false then s.input q else (s.res q).conf := by
  induction l with
  | nil => exact fun s => (if_neg (by simp)).symm
  | cons x l ih =>
    intro s
    have flies : (followConfirm x s).rm.shiftOf q = s.rm.shiftOf q := by rw [RM.shiftOf, followConfirm_shift_stands]; rfl
    rw [List.foldl_cons, ih, flies, (followConfirm_kept x s).input, followConfirm_conf]
    by_cases hx : q = x
    · subst hx
      by_cases hf : s.rm.shiftOf q = false <;> simp [hf]
    · simp [hx]

theorem followConfirms_cmd (q : Res) (l : List Res) : ∀ s : State,
    ((l.foldl (fun s r => followConfirm r s) s).res q).cmd = (s.res q).cmd := by
  induction l with
  | nil => exact fun s => rfl
  | cons x l ih => exact fun s => (ih _).trans (followConfirm_cmd x s q)

/-! ## The shift in flight, by its stage (R38 to R40) -/

theorem tryBounce_line (s : State) : SameLine s (tryBounce s) := by
  unfold tryBounce
  split
  · rename_i sh hs
    split
    · exact ⟨by simp [hs, Shift.job], rfl, fun q => by cases q <;> rfl, fun q => by cases q <;> rfl⟩
    · exact .refl s
  · exact .refl s

theorem stageChange_line (s : State) : SameLine s (stageChange s) := by
  unfold stageChange
  repeat' split
  · exact tryActuate_line s
  · exact trySettle_line s
  · exact tryBounce_line s
  · exact .refl s

theorem tryBounce_res (s : State) (q : Res) : (tryBounce s).res q = s.res q := by
  unfold tryBounce
  split
  · split
    · cases q <;> rfl
    · rfl
  · rfl

/-- R38, R39: in PREPARE the preconditions decide. -/
theorem stageChange_prepare (hs : f.rm.shift = some sh) (hg : sh.stage = .prepare) :
    (f.preconditions sh.res sh.op = false → stageChange f = f)
    ∧ (f.preconditions sh.res sh.op = true → ((stageChange f).res sh.res).cmd = (sh.op == .engage)
      ∧ (f.input sh.res = sh.op.target → (stageChange f).rm.shift = some ⟨sh.res, sh.op, .settle, f.par.settleTime⟩)
      ∧ (f.input sh.res ≠ sh.op.target → (stageChange f).rm.shift = some ⟨sh.res, sh.op, .actuate, f.par.confirmTime⟩)) := by
  obtain ⟨r, op, g, n⟩ := sh
  obtain rfl : g = .prepare := hg
  have acts : stageChange f = tryActuate f := by simp [stageChange, hs]
  rw [acts]
  refine ⟨tryActuate_waits hs, fun hp => ?_⟩
  obtain ⟨cmd, actuates, settles⟩ := tryActuate_drives hs hp
  exact ⟨cmd, settles, actuates⟩

/-- R39: in ACTUATE the shift enters SETTLE where its confirm input shows the new position. -/
theorem stageChange_actuate (hs : f.rm.shift = some sh) (hg : sh.stage = .actuate) :
    (f.input sh.res = sh.op.target → (stageChange f).rm.shift = some ⟨sh.res, sh.op, .settle, f.par.settleTime⟩)
    ∧ (f.input sh.res ≠ sh.op.target → (stageChange f).rm.shift = some sh)
    ∧ ∀ q, (stageChange f).res q = f.res q := by
  have acts : stageChange f = trySettle f := by simp [stageChange, hs, hg]
  rw [acts]
  exact ⟨fun h => by simp [trySettle, hs, hg, h], fun h => by simp [trySettle, hs, hg, h], trySettle_res f⟩

/-- R40: in SETTLE the shift goes back to ACTUATE where its confirm input has left the new position. -/
theorem stageChange_settle (hs : f.rm.shift = some sh) (hg : sh.stage = .settle) :
    (f.input sh.res = sh.op.target → (stageChange f).rm.shift = some sh)
    ∧ (f.input sh.res ≠ sh.op.target → (stageChange f).rm.shift = some ⟨sh.res, sh.op, .actuate, f.par.confirmTime⟩)
    ∧ ∀ q, (stageChange f).res q = f.res q := by
  have acts : stageChange f = tryBounce f := by simp [stageChange, hs, hg]
  rw [acts]
  exact ⟨fun h => by simp [tryBounce, hs, hg, h], fun h => by simp [tryBounce, hs, hg, h], tryBounce_res f⟩

/-! ## The input change -/

/-- R60: before the shift in flight is looked at, the positions beside it follow their inputs and nothing else of the drive moves. -/
structure Followed (d f : State) : Prop where
  kept : Kept d f
  shift : f.rm.shift = d.rm.shift
  cmd : ∀ q, (f.res q).cmd = (d.res q).cmd
  stands : ∀ q, d.rm.shiftOf q = true → (f.res q).conf = (d.res q).conf
  shows : ∀ q, d.rm.shiftOf q = false → f.Shows q

theorem inputChange_followed (hv : d.ps.validated = true) : ∃ f, inputChange d = pathBothTest (stageChange f) ∧ Followed d f := by
  have conf (q : Res) := followConfirms_conf_eq q allRes d
  refine ⟨_, if_pos hv, followConfirms_kept d, foldl_shift (fun x r => followConfirm_shift_stands r x) allRes d,
    fun q => followConfirms_cmd q allRes d, fun q h => ?_, fun q h => ?_⟩
  · rw [conf, if_neg (by simp [h])]
  · rw [State.Shows, conf, if_pos ⟨by cases q <;> simp [allRes], h⟩, (followConfirms_kept d).input]

/-- R37: what the preconditions of the shift in flight come to once the positions have followed. -/
theorem Followed.preconditions (h : Followed d f) (hi : d.mc.inited = true) (hs : d.rm.shift = some sh) :
    f.preconditions sh.res sh.op = true ↔ AllowedBy d.mc.accepted d sh.res sh.op := by
  have others (q : Res) (hq : q ≠ sh.res) : f.Shows q := h.shows q (by simp [RM.shiftOf, hs, Ne.symm hq])
  have split : f.rm.split.cmd = d.rm.split.cmd := h.cmd .split
  have ptor : f.rm.ptor.cmd = d.rm.ptor.cmd := h.cmd .ptor
  rw [preconditions_iff_allowedBy (h.kept.inited.trans hi) others, h.kept.accepted]
  unfold AllowedBy
  rw [split, ptor, h.kept.pcu, h.kept.par, h.kept.still]

end

/-- Settles O31. -/
theorem inputChangeMovesTheShift : Obligations.InputChangeMovesTheShift := by
  unfold Obligations.InputChangeMovesTheShift
  intro l s hs hi hv
  refine ⟨_, inputSample_later hs hi, ?_⟩
  split
  · rename_i same
    exact fun changed => absurd same changed
  obtain ⟨f, change, followed⟩ := inputChange_followed (d := debounced l s) hv
  rw [change]
  have line := stageChange_line f
  have stage := stageChange_kept f
  have kept := (followed.kept.trans stage).trans (finish_pathBoth_kept (sampleStarted l s) _)
  have shown (q : Res) : f.input q = shownBy (debounced l s).mc.accepted q :=
    (followed.kept.input q).trans (input_eq_shownBy (s := debounced l s) hi q)
  intro acc shows slow holds _
  have accepted : acc = (debounced l s).mc.accepted := kept.accepted
  refine ⟨fun r hr => ?_, fun sh hsh hl => ?_⟩
  · have w : (stageChange f).Shows r := (followed.shows r hr).stands stage (line.conf r)
    refine (finish_pathBoth_shows (sampleStarted l s) w).trans ((kept.input r).trans ?_)
    exact (input_eq_shownBy (s := debounced l s) hi r).trans (by rw [← accepted]; rfl)
  · intro there stands settles actuates
    have flight : f.rm.shift = some sh := followed.shift.trans hsh
    have flies : (debounced l s).rm.shiftOf sh.res = true := by
      have same : (debounced l s).rm.shift = some sh := hsh
      simp [RM.shiftOf, same]
    have pre : f.preconditions sh.res sh.op = true ↔ holds sh.res sh.op := by
      rw [followed.preconditions (d := debounced l s) hi hsh, ← accepted]; rfl
    have at_target : f.input sh.res = sh.op.target ↔ there := by rw [shown, ← accepted]; rfl
    have inFlight : (stageChange f).rm.shift.isSome = true := by
      have job := congrArg Option.isSome line.job
      rwa [Option.isSome_map, Option.isSome_map, flight] at job
    obtain ⟨shift, cmd, conf⟩ := finish_pathBoth_stands (sampleStarted l s) (.inl inFlight) hl
    have par : f.par = s.par := followed.kept.par
    have before : (f.res sh.res).cmd = (s.res sh.res).cmd := followed.cmd sh.res
    refine ⟨(conf _).trans ((line.conf _).trans (followed.stands _ flies)), fun hg hp => ?_, fun hg hp => ?_,
      fun hg => ?_, fun hg => ?_⟩
    · obtain ⟨waits, -⟩ := stageChange_prepare flight hg
      have waits := waits (Bool.eq_false_iff.2 fun k => hp (pre.1 k))
      exact ⟨shift.trans (by rw [waits, flight]), (cmd _).trans (by rw [waits, before])⟩
    · obtain ⟨-, drives⟩ := stageChange_prepare flight hg
      obtain ⟨driven, settled, actuated⟩ := drives (pre.2 hp)
      rw [par] at settled actuated
      exact ⟨(cmd _).trans driven, fun k => shift.trans (settled (at_target.2 k)),
        fun k => shift.trans (actuated fun x => k (at_target.1 x))⟩
    · obtain ⟨settled, stood, res⟩ := stageChange_actuate flight hg
      rw [par] at settled
      have output := (cmd sh.res).trans (by rw [res, before])
      exact ⟨fun k => ⟨shift.trans (settled (at_target.2 k)), output⟩,
        fun k => ⟨shift.trans (stood fun x => k (at_target.1 x)), output⟩⟩
    · obtain ⟨stood, actuated, res⟩ := stageChange_settle flight hg
      rw [par] at actuated
      have output := (cmd sh.res).trans (by rw [res, before])
      exact ⟨fun k => ⟨shift.trans (actuated fun x => k (at_target.1 x)), output⟩,
        fun k => ⟨shift.trans (stood (at_target.2 k)), output⟩⟩

end Sys2Proof.Machine
end

section
/-! O33. The expiry of the split position watch (R62, R163, R165). -/
namespace Sys2Proof.Machine

section
variable {s t : State}

/-! ## The critical response -/

/-- R119, R165: the governor of a filled critical slot is OFF, and OFF as R119 enters it where it was not so. -/
theorem govOff_pg (s : State) : (govOff s).pg.state = .off
    ∧ (s.pg.state ≠ .off → (govOff s).pg.thrDuty = 0 ∧ (govOff s).pg.thrMode = .off ∧ (govOff s).pg.demand = s.par.idle) := by
  unfold govOff
  split
  · rename_i h
    exact ⟨h, fun k => absurd h k⟩
  · exact ⟨rfl, fun _ => ⟨rfl, rfl, rfl⟩⟩

/-- R79: the loss of the governing list's last ACTIVE record leaves a governor that is OFF alone. -/
theorem storeTable_pg_off (x : DT) (h : s.pg.state = .off) : (storeTable x s).pg = s.pg := by
  unfold storeTable tellGovernor govListLost
  repeat' split
  · rfl
  · rename_i k
    exact absurd h k
  · rfl

theorem fillCritical_pg (c : Cause) (w : Option Res) (s : State) : (fillCritical c w s).pg.state = .off
    ∧ (s.pg.state ≠ .off → (fillCritical c w s).pg.thrDuty = 0 ∧ (fillCritical c w s).pg.thrMode = .off
      ∧ (fillCritical c w s).pg.demand = s.par.idle) := by
  obtain ⟨off, entered⟩ := govOff_pg (s.setFc { s.fc with critical := some (s.snapshot c w) })
  have pg : (fillCritical c w s).pg = (govOff (s.setFc { s.fc with critical := some (s.snapshot c w) })).pg :=
    storeTable_pg_off _ off
  rw [pg]
  exact ⟨off, entered⟩

/-- R23, R8: a record that holds a reason is HELD. -/
theorem service_held (m : RM) {r : Rec} (h : r.reasons.isNone = false) : (service m r).state = .held := by
  simp [service, serviceState, h]

/-- R165: a pump record that is not FORFEIT is HELD with CRITICAL. -/
theorem withReason_critical (m : RM) {r : Rec} (hp : r.isPump = true)
    (hf : (Rec.withReason m .critical true Rec.isPump r).isForfeit = false) :
    (Rec.withReason m .critical true Rec.isPump r).reasons.critical = true
      ∧ (Rec.withReason m .critical true Rec.isPump r).state = .held := by
  obtain ⟨-, back⟩ := withReason_demand m .critical true Rec.isPump r
  have placed : Rec.withReason m .critical true Rec.isPump r = service m { r with reasons := r.reasons.set .critical true } :=
    if_neg (by simp [back hf, hp])
  rw [placed]
  exact ⟨rfl, service_held m (by simp [Reasons.set, Reasons.isNone])⟩

theorem isPump_iff (r : Rec) : r.isPump = true ↔ r.demand.kind = .pumpStat ∨ r.demand.kind = .pumpRoll := by
  simp [Rec.isPump]

/-! ## The end of the event -/

/-- R62: the split position watch has reported, its timer stopped. -/
def splitReports (s : State) : State := s.setMc { s.mc with splitTimer := none, splitReported := true }

/-- What fills the critical slot leaves a part at rest, the split position watch having reported (R62). -/
theorem fillCritical_atRest (c : Cause) (w : Option Res) (h : AtRest s) (hl : s.fc.lockdown = false) (hc : s.fc.critical = none)
    (hs : s.splitCondition = true) :
    AtRest (fillCritical c w (splitReports s)) := by
  obtain ⟨pumping, -, drift, resync⟩ := h
  have q : Quiet (splitReports s) (fillCritical c w (splitReports s)) := fillCritical_quiet c w hc hl
  have mc : (fillCritical c w (splitReports s)).mc = { s.mc with splitTimer := none, splitReported := true } := fillCritical_mc ..
  generalize fillCritical c w (splitReports s) = u at *
  have rm : u.rm = s.rm := q.rm
  have ps : u.ps = s.ps := q.kept.ps
  have core : u.rm.core = s.rm.core := by rw [rm]
  have mode : u.modeOf = s.modeOf := modeOf_congr q.lockdown rm (by rw [mc]; rfl)
  have stationary : u.stationary = s.stationary := by unfold State.stationary; rw [mc, rm]
  have rolling : u.rolling = s.rolling := by unfold State.rolling; rw [mc, rm]
  have split : u.splitCondition = true := by
    rw [← hs]; unfold State.splitCondition; rw [mc, rm]; rfl
  refine ⟨fun hd => ?_, fun _ => ?_, fun hv r hr => ?_, fun hr => ?_⟩
  · rw [mc] at hd ⊢
    rw [mode, stationary, rolling]
    exact pumping hd
  · rw [if_pos split, mc]
    exact .inr rfl
  · rw [driftCondition_core core r, State.res, rm]
    exact drift (ps ▸ hv) r hr
  · rw [rm]
    exact resync (q.resync ▸ hr)

theorem splitWatchExpiry_fills (ht : s.mc.splitTimer.isSome = true) (hc : s.fc.critical = none) (hl : s.fc.lockdown = false) :
    exec .splitWatchExpiry s = .next (finish s (fillCritical .splitLost (some .split) (splitReports s))) := by
  have run : splitWatchExpires s = finish s (criticalFault .splitLost (some .split) (splitReports s)) :=
    if_neg (by simpa [Option.isSome_iff_ne_none] using ht)
  have fills : criticalFault .splitLost (some .split) (splitReports s) =
      fillCritical .splitLost (some .split) (splitReports s) := by
    simp [criticalFault, splitReports, hl, hc]
  exact congrArg Host.Outcome.next (run.trans (by rw [fills]))

theorem markChanged_pg (b : List Slot) (s : State) : (markChanged b s).pg = s.pg := by
  obtain ⟨c, e, -⟩ := storeMarked_eq s (markSlots b s.dt.slots)
  simp [markChanged, e]

end

/-- Settles O33: the event finds a part at rest but for the capture, so that its end marks the records and no more. -/
theorem splitLostIsTheCriticalResponse : Obligations.SplitLostIsTheCriticalResponse := by
  unfold Obligations.SplitLostIsTheCriticalResponse
  intro s h ht hc hl hs _
  refine ⟨_, splitWatchExpiry_fills ht hc hl, ?_⟩
  have rest := fillCritical_atRest .splitLost (some .split) h hl hc hs
  have rm : (fillCritical .splitLost (some .split) (splitReports s)).rm = s.rm := fillCritical_rm ..
  have mc := fillCritical_mc (splitReports s) .splitLost (some .split)
  have fc := fillCritical_fc (splitReports s) .splitLost (some .split)
  have tk := fillCritical_tk (splitReports s) .splitLost (some .split)
  have pe := fillCritical_pe (splitReports s) .splitLost (some .split)
  have dt := fillCritical_dt (splitReports s) .splitLost (some .split)
  obtain ⟨flags, -⟩ := fillCritical_cp (splitReports s) .splitLost (some .split)
  obtain ⟨off, entered⟩ := fillCritical_pg .splitLost (some .split) (splitReports s)
  generalize fillCritical .splitLost (some .split) (splitReports s) = u at *
  have ends : finish s u = markChanged s.dt.slots u := endEvent_atRest s.dt.slots rest (by rw [State.res, rm]; rfl)
  rw [ends, markChanged_mc, markChanged_fc, markChanged_pg, markChanged_rm, markChanged_tk, markChanged_pe, markChanged_flags, flags]
  refine ⟨mc, ⟨_, fc, rfl, rfl, rfl, rfl, rfl, rfl⟩, off, entered, rfl, rm, tk, pe, fun i r hr hk hf => ?_⟩
  obtain ⟨q, hq, marked⟩ := (markChanged_records u s.dt.slots).back hr
  rw [dt] at hq
  obtain ⟨q0, -, rfl⟩ := Option.map_eq_some_iff.1 ((slot_map_record _ _ _ i).symm.trans hq)
  obtain ⟨demand, -⟩ := withReason_demand s.rm .critical true Rec.isPump q0
  obtain rfl | rfl := marked
  all_goals exact withReason_critical s.rm ((isPump_iff q0).2 (demand ▸ hk)) hf

end Sys2Proof.Machine
end
